-- ==== Sys2Proof/Word.lean ====
section
/-! DEFINITION. The word type of the two serial interfaces and of the configuration memory.

Quantities of the plant are integers in fixed units (spec, Conventions / Units, Arithmetic): they are
`Nat` (or `Int` where signed). Only what travels as bits is a bit vector: bytes and message fields. -/

namespace Sys2Proof

/-- One byte of a frame, a payload or the configuration memory. -/
abbrev Byte := BitVec 8

/-- A two-byte message field or a CRC. -/
abbrev Word16 := BitVec 16

/-- A four-byte message field. -/
abbrev Word32 := BitVec 32

end Sys2Proof
end

