-- ==== Sys2Proof/Syntax.lean ====
section
/-! DEFINITION. The commands of the block: one constructor of `Instr` per row of spec/opcode_table.json.

The table gives no operands. A host request carries its tag and its payload fields, with the widths
of the kind table of chapter 11. An event carries what the outside supplies with it: the line or
turbine it concerns, the character received, pin levels sampled, and the order in which owners take
deliveries that the spec leaves without an order. -/

namespace Sys2Proof

/-- The three furnace lines (spec, Terms). -/
inductive LineId where
  | l1 | l2 | l3
deriving DecidableEq, Repr

/-- The two turbine sets (spec, Terms). -/
inductive TurbineId where
  | t1 | t2
deriving DecidableEq, Repr

/-- The owners that take the second tick, the balance tick and the closes. R26 and R120 give no order
among owners for deliveries of the same second. -/
inductive Owner where
  | lsc (l : LineId)
  | gfu (l : LineId)
  | turbine (t : TurbineId)
  | balance
  | gfuClose (l : LineId)
  | eau (l : LineId)
  | ccu (l : LineId)
  | dau (l : LineId)
  /-- The LSC of the line, taking the rundown its DAU has delivered at a minute close (R108). -/
  | limit (l : LineId)
  /-- The same, put off until after commands that follow in the same instant (R108). -/
  | limitLater (l : LineId)
  /-- The EAU, CCU, DAU or GFU of the line, taking its closes only after commands that follow in the same instant
  (R26, R63, R67). -/
  | eauLater (l : LineId)
  | ccuLater (l : LineId)
  | dauLater (l : LineId)
  | gfuCloseLater (l : LineId)
  /-- The BLU, taking the state and the ceiling the line has delivered to it (R21, R97, R134). -/
  | blu (l : LineId)
deriving DecidableEq, Repr

/-- A character on the station bus (R161): 8 data bits, the flag bit, and whether its stop bit was missing. -/
structure BusChar where
  data    : Byte
  flag    : Bool
  framing : Bool
deriving DecidableEq, Repr

/-- What the host link can bring at the very moment a frame leaves the station command queue: a byte from the host,
which may be the last of a request, or a message that has been sent, whose room a waiting request may take
(R180, notes/assumptions/35.md). -/
inductive LinkEvent where
  | byte (v : Byte)
  | messageSent (requestFirst : Bool)
deriving DecidableEq, Repr

/-- The commands, in the order of the opcode table. -/
inductive Instr where
  /-- POWER_ON: the baud straps sampled, and how many bytes of a save in WRITING had reached the memory. -/
  | powerOn (baud1 baud0 : Bool) (written : Nat)
  | rstnReset (baud1 baud0 : Bool) (written : Nat)
  | restartReset (baud1 baud0 : Bool) (written : Nat)
  /-- READY_POINT: whether the configuration memory answers, and the input levels found (true is low). -/
  | readyPoint (memoryAnswers feedStopLow trip1Low trip2Low : Bool)
  /-- SECOND_TICK: the order in which the owners take the deliveries of this second. -/
  | secondTick (order : List Owner)
  | firingEntry (l : LineId)
  | holdReturn (l : LineId)
  | holdLimit (l : LineId)
  | burnoutEnd (l : LineId)
  | strokeDue (l : LineId)
  | strokeTimeout (l : LineId)
  | runupQualified (t : TurbineId)
  | runupTimeout (t : TurbineId)
  | feedStopAssert
  | feedStopRelease
  | tripAssert (t : TurbineId)
  | tripRelease (t : TurbineId)
  /-- SPD_RISING_EDGE: the reference cycles elapsed since the last command about this pickup. -/
  | spdRisingEdge (t : TurbineId) (cycles : Nat)
  | speedCountOverflow (t : TurbineId)
  /-- BUS_GRANT: what the host link takes at that moment before a walk in WAIT_ROOM looks at the queue (R180);
  nothing where the operand is left out. -/
  | busGrant (first : List LinkEvent := [])
  | turnaroundEnd
  | unansweredFrameEnd
  | stationCharReceived (c : BusChar)
  | strayCharacter (c : BusChar)
  | responseTimeout
  | answerGapTimeout
  | settleEnd
  | rollCallWindowEnd
  | hostByteReceived (b : Byte)
  | hostGapTimeout
  | linkReset
  | hrdyAsserted
  /-- MESSAGE_SENT: whether the waiting request takes the freed room before the owed notices do (R204). -/
  | messageSent (requestFirst : Bool)
  | unknownKind (tag kind : Byte) (payload : List Byte)
  | ident (tag : Byte)
  | clockSet (tag : Byte) (year day : Word16) (second : Word32)
  | clockRead (tag : Byte)
  | paramSet (tag group inst item : Byte) (value : Word32)
  | paramGet (tag group inst item : Byte)
  | configSave (tag : Byte)
  /-- CONFIG_WRITE_DONE: the cells of the memory that did not take the byte written to them. -/
  | configWriteDone (bad : List (Nat × Byte))
  | configVerifyDone
  | allowanceRestore (tag line : Byte) (year used dust co nox so2 hcl : Word16)
  | lineStart (tag line : Byte)
  | lineFeed (tag line : Byte)
  | lineStop (tag line : Byte)
  | lineCeiling (tag line : Byte) (value : Word16)
  | lineDeclare (tag line action : Byte)
  | turbineStart (tag turbine : Byte)
  | turbineStop (tag turbine : Byte)
  | tripReset (tag turbine : Byte)
  | scheduleAdd (tag : Byte) (year day minute p h : Word16)
  | scheduleCancel (tag : Byte) (year day minute : Word16)
  | scheduleList (tag : Byte)
  | stationEnrol (tag : Byte)
  | stationList (tag first : Byte)
  | stationBind (tag number role : Byte)
  | stationUnbind (tag role : Byte)
  | stationForget (tag number : Byte)
  | recordsFetch (tag : Byte) (serial : Word32) (count : Byte)
  | statusLine (tag line : Byte)
  | statusTurbine (tag turbine : Byte)
  | statusPlant (tag : Byte)
  | noticeList (tag first : Byte)
  | noticeClear (tag kind subject : Byte)
  | noticeFloor (tag floor : Byte)
  | restart (tag : Byte)
  | stationFrameSent
  | hrxdReturnedHigh
deriving DecidableEq, Repr

end Sys2Proof
end

