-- ==== Sys2Proof/Decode.lean ====
section
/-! DEFINITION. Commands spelled by the table's bits. No row of spec/opcode_table.json gives bits (its
"fixed" and "fields" are empty on every row), so no word spells a command. Host requests reach the part
as framed bytes: their decoding is `Machine.serve` in Machine/Requests.lean. -/

namespace Sys2Proof

/-- The command that the word `w` of `nbits` bits spells by the table's bits: none, as no row gives bits. -/
def decodeTableWord (_nbits _w : Nat) : Option Instr := none

end Sys2Proof
end

