-- ==== Sys2Proof/Config.lean ====
section
/-! DEFINITION. What the part fixes (the fixed values the chapters name, which have no parameter item,
R209) and what the spec leaves open: free values, constants with no body. -/

namespace Sys2Proof.Config

/-- The fixed maximum load, ‰ (R38, R97). -/
def maxLoad : Nat := 1100
/-- LHV_init, LHV_min and LHV_max, kJ/kg (R38). -/
def lhvInit : Nat := 9500
def lhvMin : Nat := 5000
def lhvMax : Nat := 16000
/-- The pacer accumulator's modulus (R40). -/
def pacerModulus : Nat := 360000
/-- Slots of the minute ring (R51). -/
def ringSlots : Nat := 30
/-- Usable slots the estimator needs (R52). -/
def minUsable : Nat := 10
/-- The fixed values of chapter 4 (R55). -/
def minSamples : Nat := 9
def maxO2 : Nat := 180
def maxH2O : Nat := 400
def minMinutes : Nat := 20
def maxInvalidHalfHours : Nat := 5
/-- The yearly allowance and its low mark, minutes (R101). -/
def allowance : Nat := 3600
def allowanceLow : Nat := 3240
/-- Fixed values of chapter 5 (R84). -/
def maxTrim : Nat := 4000
def atMaxMinutes : Nat := 3
def guardValid : Nat := 5
/-- Dispatch queue size (R137). -/
def queueSize : Nat := 16
/-- Consecutive failed polls that make a station LOST (R161, R172). -/
def missThreshold : Nat := 3
/-- Size of the command queue (R160). -/
def commandQueueSize : Nat := 8
/-- Highest station number (R175). -/
def maxStation : Nat := 24
/-- Bytes of the inbound and outbound buffers (R190). -/
def inboundSize : Nat := 1024
def outboundSize : Nat := 2048
/-- Levels of RDYO (R193). -/
def rdyoHigh : Nat := 768
def rdyoLow : Nat := 256
/-- Room a request needs, and room a NOTICE message needs alone and beside a reply (R194, R203). -/
def requestRoom : Nat := 256
def noticeRoom : Nat := 32
def noticeRoomInRequest : Nat := 282
/-- Records the Record Store holds (R207). -/
def storeSize : Nat := 192
/-- The last serial, after which 1 follows (R207). -/
def maxSerial : Nat := 4294967295
/-- Largest values of a byte, two-byte and four-byte counter. -/
def max8 : Nat := 255
def max16 : Nat := 65535
def max32 : Nat := 4294967295
/-- Bytes of the external configuration memory (chapter 13, 8 KiB). -/
def memorySize : Nat := 8192
/-- Format code, body length and header length of the image (R212). -/
def formatCode : Nat := 4880
def bodyLength : Nat := 681
def headerLength : Nat := 8

/-! Free values: the spec gives the effect and not the value. Nothing constrains them. -/

/-- R50: while UNSET the steam sum saturates; at what bound, the spec does not say. How far the bound lies
above 4294967295 (notes/assumptions/15.md). -/
opaque steamSumBeyond : Nat
/-- R50: the same for the steam sample count. -/
opaque steamCountBeyond : Nat
/-- R155: the speed of a period whose count is 0 (the division has no quotient), by reference and teeth. -/
opaque speedAtZeroCount : Nat → Nat → Nat
/-- R154, R155: the rpm stored for a period whose speed is above 65535. -/
opaque rpmPastRange : Nat → Word16
/-- R177: the found count after an increase at 24 (rejoins can pass the range the field is given). -/
opaque foundPastRange : Nat → Fin 25
/-- R177: the dropped or duplicates count after an increase at 255. -/
opaque walkCountPastRange : Nat → Byte
/-- R76, 12.4: what the two bytes of a DAY record hold of a day average above 65535. -/
opaque dayAveragePastRange : Nat → Word16
/-- R24: the year, day and second the clock shows to the deliveries of the last tick of 2099. -/
opaque endOfRangeYear : Nat → Nat
opaque endOfRangeDay : Nat → Nat
opaque endOfRangeSecond : Nat → Nat

end Sys2Proof.Config
end

