-- ==== Sys2Proof/Machine/State.lean ====
section
/-! DEFINITION. The state of the part: every field the chapters' records give it, as plain data, and the
state after a full reset. Field docstrings name the rule; a value absent in the spec is `none`. -/

namespace Sys2Proof.Machine
open Sys2Proof

/-! ## Families of like things -/

/-- One value per furnace line. -/
structure PerLine (α : Type) where
  l1 : α
  l2 : α
  l3 : α
deriving DecidableEq, Repr

/-- One value per turbine. -/
structure PerTurbine (α : Type) where
  t1 : α
  t2 : α
deriving DecidableEq, Repr

/-- The five pollutants, in index order 1 to 5 (chapter 4.1). -/
inductive Pollutant where
  | dust | co | nox | so2 | hcl
deriving DecidableEq, Repr

/-- One value per pollutant. -/
structure PerPollutant (α : Type) where
  dust : α
  co   : α
  nox  : α
  so2  : α
  hcl  : α
deriving DecidableEq, Repr

/-- One value per measured quantity: the pollutants, then O2 and H2O (chapter 4.1). -/
structure PerQuantity (α : Type) where
  pol : PerPollutant α
  o2  : α
  h2o : α
deriving DecidableEq, Repr

/-! ## Time (chapter 2) -/

/-- A year, day-of-year and second-of-day. -/
structure Time where
  year   : Nat
  day    : Nat
  second : Nat
deriving DecidableEq, Repr

/-- A stamp as R27 takes it. -/
inductive Stamp where
  | clock (t : Time)
  | uptime (seconds : Nat)
deriving DecidableEq, Repr

/-- The identity of a minute: year, day and minute-of-day (R26). -/
structure MinuteId where
  year   : Nat
  day    : Nat
  minute : Nat
deriving DecidableEq, Repr

/-- The closes of R26. -/
inductive Close where
  | minute (m : MinuteId) (cut : Bool)
  | halfHour (year day index : Nat) (cut : Bool)
  | day (year day : Nat) (rollover cut : Bool)
  | yearChange (old new : Nat)
deriving DecidableEq, Repr

/-- A delivery: the owner, and the close it takes; none for a second tick or a balance tick. -/
structure Job where
  owner : Owner
  close : Option Close
deriving DecidableEq, Repr

/-- The clock record (R23). The clock is RUNNING exactly when it holds a time. `late` is the MODEL's own field: the
closes delivered that their owners have put off past commands of the same instant, oldest first
(notes/assumptions/49.md). -/
structure Clock where
  time    : Option Time
  phase   : Nat
  uptime  : Nat
  lastSet : Option Time
  late    : List Job
deriving DecidableEq, Repr

/-! ## Lines (chapter 1) -/

/-- Line states, in the order of R1. -/
inductive LineState where
  | idle | warmup | firing | hold | rundown
deriving DecidableEq, Repr

/-- Rundown causes, in the order of R1. -/
inductive RundownCause where
  | none | host | holdLimit | feedstop | feedFault | episodeLimit | allowance
deriving DecidableEq, Repr

/-- Status of a station's reply: OK or FAULT (R165). -/
inductive OkFault where
  | ok | fault
deriving DecidableEq, Repr

/-- A FURNACE temperature with its status (R1). -/
structure FurnaceSample where
  temp   : Nat
  status : OkFault
deriving DecidableEq, Repr

/-- The nine firing conditions, in the order of R7. -/
inductive FiringCond where
  | feedRequest | feedstop | temperature | feeder | furnace | dosing | analyzer | causes | allowance
deriving DecidableEq, Repr

/-- The line state record of the LSC (R1), with the pending conditions of R22. `limitDue` is the MODEL's own field:
the rundown its DAU has delivered at a minute close that the LSC has not yet taken (R108). -/
structure Lsc where
  state         : LineState
  feedRequested : Bool
  cause         : RundownCause
  sample        : Option FurnaceSample
  hot           : Bool
  confirm       : Nat
  hold          : Nat
  burnout       : Nat
  pendingConds  : List FiringCond
  limitDue      : Option RundownCause
deriving DecidableEq, Repr

/-! ## Grate feeding (chapter 3) -/

/-- Stage of the stroke in flight (R41). -/
inductive Phase where
  | none | extending | retracting
deriving DecidableEq, Repr

/-- The feeder command derived from the stroke record (R41), in the order of R54. -/
inductive FeederCommand where
  | hold | extend | retract
deriving DecidableEq, Repr

/-- A slot of the minute ring (R51). `steam` and `mass` are meaningful in a firing slot. -/
structure RingSlot where
  minute : MinuteId
  firing : Bool
  steam  : Option Nat
  mass   : Nat
deriving DecidableEq, Repr

/-- Outcome of the estimator (R53). -/
inductive EstResult where
  | none | few | light | updated | low | high
deriving DecidableEq, Repr

/-- The GFU: load record (R34), pacer (R39, R40), stroke record (R41), open-minute accumulators (R50),
minute ring (R51) and estimator (R52, R53). -/
structure Gfu where
  load       : Nat
  target     : Nat
  ceiling    : Nat
  lastFiring : Nat
  acc        : Nat
  rate       : Nat
  phase      : Phase
  age        : Nat
  owed       : Bool
  latch      : Bool
  faults     : Nat
  completed  : Nat
  dropped    : Nat
  ramFaults  : Nat
  fedMass    : Nat
  steamSum   : Nat
  steamCount : Nat
  ring       : List RingSlot
  lhv        : Nat
  estResult  : EstResult
  usable     : Nat
  lastRaw    : Option Nat
deriving DecidableEq, Repr

/-! ## Emission measurement (chapter 4) -/

/-- The active analyzer (R56). -/
inductive Selection where
  | a | b | none
deriving DecidableEq, Repr

/-- What the EAU holds of one analyzer role (R56). -/
structure AnalyzerRole where
  bound   : Bool
  healthy : Bool
  o2Fault : Bool
deriving DecidableEq, Repr

/-- Sum and count of OK samples of one quantity (R63). -/
structure Samples where
  sum   : Nat
  count : Nat
deriving DecidableEq, Repr

/-- Status of a pollutant's minute, in the order of R65. -/
inductive MinuteStatus where
  | excluded | clock | noO2 | dilute | noH2O | moist | noData | valid
deriving DecidableEq, Repr

/-- A pollutant's part of a minute (R67): `cn` is present exactly when the status is VALID. -/
structure PolMinute where
  status : MinuteStatus
  cn     : Option Nat
  overRange : Bool
deriving DecidableEq, Repr

/-- A written slot of the half-hour table (R67). -/
structure MinuteSlot where
  lineState : LineState
  pol       : PerPollutant PolMinute
  o2        : Option Nat
  h2o       : Option Nat
  mass      : Nat
  deviation : Bool
  cut       : Bool
deriving DecidableEq, Repr

/-- A pollutant's part of the day accumulator (R75). -/
structure DayPol where
  sum     : Nat
  valid   : Nat
  invalid : Nat
deriving DecidableEq, Repr

/-- The day accumulator (R75). -/
structure DayAcc where
  complete : Nat
  partials : Nat
  pol      : PerPollutant DayPol
deriving DecidableEq, Repr

/-- The last minute fields of STATUS LINE (R81). -/
structure LastMinute where
  pol : PerPollutant PolMinute
  o2  : Option Nat
  h2o : Option Nat
deriving DecidableEq, Repr

/-- The EAU: analyzer record (R56), open minute (R63), half-hour table (R67), day accumulator (R75),
tallies (R79), last minute (R81). The running means (R68) are read off the table. -/
structure Eau where
  active   : Selection
  roleA    : AnalyzerRole
  roleB    : AnalyzerRole
  switches : Nat
  samples  : PerQuantity Samples
  mass     : Nat
  table    : List (Option MinuteSlot)
  day      : DayAcc
  tallies  : PerPollutant Nat
  last     : Option LastMinute
deriving DecidableEq, Repr

/-! ## Cleaning and ceilings (chapter 5) -/

/-- A running mean: the valid count and, if it is at least 1, the mean (R68). -/
structure RunningMean where
  count : Nat
  mean  : Option Nat
deriving DecidableEq, Repr

/-- The EAU's minute hand-over (R68). -/
structure HandOver where
  minute : MinuteId
  so2    : PolMinute
  hcl    : PolMinute
  means  : PerPollutant RunningMean
deriving DecidableEq, Repr

/-- Minute closes or hand-overs not yet paired, oldest first; all of one kind (R83, R85). A hand-over
that waits keeps its values for the minute work to come. -/
inductive Unmatched where
  | closes (l : List MinuteId)
  | handOvers (l : List HandOver)
deriving DecidableEq, Repr

/-- The deviation cause set (R101). -/
structure Causes where
  analyzer : Bool
  dosing   : Bool
  declared : Bool
deriving DecidableEq, Repr

/-- The cleaning and ceiling record of the CCU (R83). -/
structure Ccu where
  acidIndex     : Option Nat
  trim          : Nat
  demand        : Nat
  atMax         : Nat
  unmatched     : Unmatched
  reagent       : Nat
  guard         : Nat
  guardStepping : Bool
  host          : Nat
  deviation     : Nat
  effective     : Nat
  causes        : Causes
  dosingLost    : Bool
  dosingFault   : Bool
  actualRate    : Option Nat
  lowerings     : Nat
  releases      : Nat
deriving DecidableEq, Repr

/-! ## Deviation (chapter 6) -/

/-- The limit reached field of an episode (R104). -/
inductive LimitReached where
  | none | episodeLimit | allowance | both
deriving DecidableEq, Repr

/-- An open episode (R104). -/
structure Episode where
  openStamp  : Stamp
  causesSeen : Causes
  minutes    : Nat
  limit      : LimitReached
deriving DecidableEq, Repr

/-- Close reason of an episode (R109). -/
inductive CloseReason where
  | cleared | idle
deriving DecidableEq, Repr

/-- The last closed episode (R101). -/
structure LastClosed where
  reason  : CloseReason
  minutes : Nat
  stamp   : Stamp
deriving DecidableEq, Repr

/-- The deviation record of the DAU (R101). -/
structure Dau where
  causes       : Causes
  episode      : Option Episode
  used         : Nat
  restored     : Bool
  restoredYear : Option Nat
  closed       : Nat
  last         : Option LastClosed
deriving DecidableEq, Repr

/-- The five per-line blocks of one line. -/
structure Line where
  lsc : Lsc
  gfu : Gfu
  eau : Eau
  ccu : Ccu
  dau : Dau
deriving DecidableEq, Repr

/-! ## Steam balance (chapter 7) -/

/-- The BLU's copies of one line (R117). -/
structure LineCopy where
  state   : LineState
  ceiling : Nat
  steam   : Option Nat
  stale   : Bool
deriving DecidableEq, Repr

/-- The figures of a line counted as firing at the last cycle (R116). -/
structure LineFigures where
  lo     : Nat
  hi     : Nat
  alloc  : Nat
  target : Nat
deriving DecidableEq, Repr

/-- The balance record (R116). -/
structure Blu where
  copies       : PerLine LineCopy
  pressure     : Option Nat
  flow         : Option Nat
  trim         : Int
  uncontrolled : Nat
  demand       : Int
  demandCut    : Int
  cut1         : Nat
  cut2         : Nat
  residual     : Nat
  elShort      : Nat
  heatShort    : Nat
  figures      : PerLine (Option LineFigures)
  surplus      : Nat
  target       : Nat
  unabsorbed   : Nat
  setpoint     : Nat
  short        : Bool
  saturated    : Bool
  stamp        : Option Stamp
deriving DecidableEq, Repr

/-! ## Turbine dispatch (chapter 8) -/

/-- An effective time of the schedule (R137). -/
structure EffTime where
  year   : Nat
  day    : Nat
  minute : Nat
deriving DecidableEq, Repr

/-- An entry of the dispatch queue (R137). -/
structure SchedEntry where
  time : EffTime
  p    : Nat
  h    : Nat
deriving DecidableEq, Repr

/-- The commitment record (R137). -/
structure Commitment where
  p          : Nat
  h          : Nat
  time       : Option EffTime
  applied    : Option Stamp
  superseded : Nat
deriving DecidableEq, Repr

/-- Turbine states (R143). -/
inductive TurbineState where
  | offline | runup | online | unloading | tripped
deriving DecidableEq, Repr

/-- Marks handed to the BLU (R121, R143). -/
inductive Mark where
  | free | warming | zero | frozen
deriving DecidableEq, Repr

/-- Cause of a trip (R151). -/
inductive TripCause where
  | input | overspeed
deriving DecidableEq, Repr

/-- The most recent trip (R143). -/
structure LastTrip where
  cause  : TripCause
  before : TurbineState
  stamp  : Stamp
deriving DecidableEq, Repr

/-- Breaker position in the station copy (R145, R158). -/
inductive Breaker where
  | opened | closed | unknown
deriving DecidableEq, Repr

/-- The TDU's station copy (R145); a valve position UNKNOWN and a status absent are `none`. -/
structure StationCopy where
  bound   : Bool
  healthy : Bool
  valve   : Option Nat
  breaker : Breaker
  status  : Option OkFault
deriving DecidableEq, Repr

/-- Range of the speed measurement (R154). -/
inductive SpeedRange where
  | fast | slow
deriving DecidableEq, Repr

/-- Speed status (R154). -/
inductive SpeedStatus where
  | stopped | measuring | valid
deriving DecidableEq, Repr

/-- The speed record (R154). -/
structure Speed where
  range   : SpeedRange
  timing  : Bool
  count   : Nat
  periods : Nat
  status  : SpeedStatus
  rpm     : Nat
  overCount : Nat
deriving DecidableEq, Repr

/-- The turbine record (R143), its station copy (R145) and its speed record (R154). -/
structure Turbine where
  state        : TurbineState
  mark         : Mark
  targetBefore : Nat
  targetAfter  : Nat
  setpoint     : Nat
  frozen       : Bool
  runup        : Nat
  qual         : Nat
  tripInput    : Bool
  lastTrip     : Option LastTrip
  trips        : Nat
  station      : StationCopy
  speed        : Speed
deriving DecidableEq, Repr

/-- The TDU (R137, R142, R143). -/
structure Tdu where
  queue      : List SchedEntry
  commitment : Commitment
  elConv     : Nat
  heatConv   : Nat
  turbines   : PerTurbine Turbine
deriving DecidableEq, Repr

/-! ## Station bus and enrolment (chapters 9 and 10) -/

/-- Station kinds, codes 1 to 7 (R162). -/
inductive StationKind where
  | feeder | furnace | analyzer | dosing | header | turbine | bypass
deriving DecidableEq, Repr

/-- A station identifier: the kind byte and the 40-bit serial (R162). -/
structure StationId where
  kind   : Byte
  serial : BitVec 40
deriving DecidableEq, Repr

/-- The 19 roles (chapter 10.2). -/
inductive Role where
  | feeder (l : LineId)
  | furnace (l : LineId)
  | analyzerA (l : LineId)
  | analyzerB (l : LineId)
  | dosing (l : LineId)
  | header
  | turbine (t : TurbineId)
  | bypass
deriving DecidableEq, Repr

/-- An entry of the station table (R175) with the due time of its poll list entry (R171). The state is read off
`lost` and `role`; `returnBound` tells the return state BOUND, and false ENROLLED; the role table is read off the
entries' roles (R176). -/
structure Station where
  number      : Nat
  ident       : StationId
  lost        : Bool
  returnBound : Bool
  role        : Option Role
  misses      : Nat
  good        : Nat
  miss        : Nat
  crossed     : Nat
  bad         : Nat
  lastGood    : Stamp
  due         : Nat
deriving DecidableEq, Repr

/-- Bus states (R160). -/
inductive BusState where
  | free | sending | turnaround | waiting | receiving | settling
deriving DecidableEq, Repr

/-- Frame commands of the part (R162). -/
inductive FrameCommand where
  | poll | rollCall | assign | clear | forget
deriving DecidableEq, Repr

/-- An unanswered frame of the command queue (R169): CLEAR or FORGET to an address, 0 for broadcast. -/
structure Unanswered where
  forget  : Bool
  address : Nat
deriving DecidableEq, Repr

/-- The transaction in flight (R160): the frame's command and address, the number expected to answer,
the kind whose reply lengths apply, whether the entry concerned is still held (R174), the prefix bits
of a ROLL CALL, the frame's characters, the turnaround and response timeout of its grant, and the
characters of the answer so far. -/
structure Transaction where
  command    : FrameCommand
  address    : Nat
  expected   : Nat
  kind       : Option StationKind
  entryHeld  : Bool
  bits       : List Bool
  frame      : List BusChar
  turnaround : Nat
  timeout    : Nat
  answer     : List BusChar
deriving DecidableEq, Repr

/-- What began a walk (R177). -/
inductive WalkOrigin where
  | host | start
deriving DecidableEq, Repr

/-- The frame the walk has ready or in flight (R177). -/
inductive WalkStep where
  | none | rollCall | assign | waitRoom
deriving DecidableEq, Repr

/-- The station being numbered (R177), with the prefix that found it (R182). -/
structure Candidate where
  ident    : StationId
  number   : Nat
  rejoin   : Bool
  attempts : Nat
  bits     : List Bool
deriving DecidableEq, Repr

/-- End reason of a walk (R183). -/
inductive WalkEnd where
  | complete | full
deriving DecidableEq, Repr

/-- The last walk (R177). -/
structure LastWalk where
  reason     : WalkEnd
  found      : Nat
  dropped    : Nat
  duplicates : Nat
deriving DecidableEq, Repr

/-- The walk record (R177); the top of the stack is the head of the list. -/
structure Walk where
  active     : Bool
  origin     : Option WalkOrigin
  stack      : List (List Bool)
  step       : WalkStep
  candidate  : Option Candidate
  found      : Nat
  dropped    : Nat
  duplicates : Nat
  last       : Option LastWalk
deriving DecidableEq, Repr

/-- The SBM: transport record (R160), driver enable (R166), baud in force (R161), station table (R175)
in number order, and walk record (R177). -/
structure Bus where
  state    : BusState
  driver   : Bool
  txn      : Option Transaction
  queue    : List Unanswered
  stray    : Nat
  baud     : Nat
  stations : List Station
  walk     : Walk
deriving DecidableEq, Repr

/-! ## Host link, notices, records (chapters 11 and 12) -/

/-- Stage of the inbound frame (R190). -/
inductive Assembler where
  | hunt | length | body | crc
deriving DecidableEq, Repr

/-- A complete request waiting in the inbound buffer (R192). -/
structure Request where
  kind    : Byte
  tag     : Byte
  payload : List Byte
deriving DecidableEq, Repr

/-- The link record (R190). The inbound buffer is `requests` followed by `assembly`; the outbound
buffer is a list of whole messages. `receiver` is on from the ready point; `lineLow` holds from a link
reset until HRXD returns high (R200); `sending` is that the oldest message has been started, and `sent` how many
of its bytes have left the buffer (R193); `awaiting` that a request taken awaits its reply (R203); `restartDue` that the full reset of R199 follows. -/
structure Link where
  baud           : Nat
  receiver       : Bool
  lineLow        : Bool
  assembler      : Assembler
  assembly       : List Byte
  requests       : List Request
  outbound       : List (List Byte)
  sending        : Bool
  sent           : Nat
  rdyo           : Bool
  restartPending : Bool
  restartDue     : Bool
  awaiting       : Bool
  stray          : Nat
  gap            : Nat
  crc            : Nat
  overrun        : Nat
deriving DecidableEq, Repr

/-- Notice kinds, codes 1 to 27 (chapter 12.1). -/
inductive NoticeKind where
  | tempLow | holdLimit | feedLag | ramFault | feedFault | feedstop | guardActive | reagentLimit
  | exceedance | dayDeficient | analyzerSwitch | deviationOpen | deviationClosed | episodeLimit
  | allowanceLow | allowanceExhausted | commitShort | bypassSat | turbineTrip | runupTimeout
  | stationLost | stationBack | enrolDone | duplicateId | recordsLost | linkError | config
deriving DecidableEq, Repr

/-- A pending entry of the notice table (R202). -/
structure NoticeEntry where
  kind    : NoticeKind
  subject : Nat
  count   : Nat
  first   : Stamp
  last    : Stamp
  detail  : List Byte
  owed    : Bool
deriving DecidableEq, Repr

/-- The notice table: the floor and the pending entries, in table order. An entry not listed is clear. -/
structure Notices where
  floor   : Nat
  entries : List NoticeEntry
deriving DecidableEq, Repr

/-- Per-quantity part of a HALF_HOUR record (R73). -/
structure HalfHourQuantity where
  average  : Option Nat
  minutes  : Nat
  valid    : Bool
  partials : Bool
  overRange : Bool
  exceeded : Bool
deriving DecidableEq, Repr

/-- Per-pollutant part of a DAY record (R77). -/
structure DayQuantity where
  average   : Option Nat
  valid     : Nat
  invalid   : Nat
  deficient : Bool
  exceeded  : Bool
deriving DecidableEq, Repr

/-- A HALF_HOUR record (R73). -/
structure HalfHourRecord where
  year          : Nat
  day           : Nat
  index         : Nat
  counted       : Nat
  deviation     : Nat
  allowanceUsed : Nat
  mass          : Nat
  complete      : Bool
  cut           : Bool
  quantities    : PerQuantity HalfHourQuantity
deriving DecidableEq, Repr

/-- A DAY record (R77). -/
structure DayRecord where
  year     : Nat
  day      : Nat
  complete : Nat
  partials : Nat
  cut      : Bool
  pol      : PerPollutant DayQuantity
deriving DecidableEq, Repr

/-- An EPISODE record (R110). -/
structure EpisodeRecord where
  opened       : Stamp
  closed       : Stamp
  minutes      : Nat
  causesSeen   : Causes
  reason       : CloseReason
  limit        : LimitReached
  usedAtClose  : Nat
  restoredYear : Option Nat
deriving DecidableEq, Repr

/-- What a record holds beside its serial and line. -/
inductive RecordBody where
  | halfHour (r : HalfHourRecord)
  | day (r : DayRecord)
  | episode (r : EpisodeRecord)
deriving DecidableEq, Repr

/-- A record held in the Record Store (R207). -/
structure StoredRecord where
  serial : Nat
  line   : LineId
  body   : RecordBody
deriving DecidableEq, Repr

/-- The Record Store (R207), oldest record first. -/
structure RecordStore where
  records    : List StoredRecord
  nextSerial : Nat
  lossCount  : Nat
deriving DecidableEq, Repr

/-! ## Parameters and configuration memory (chapter 13) -/

/-- PLANT group, in item order (13.2). -/
structure PlantParams where
  refO2     : Nat
  pSet      : Nat
  kP        : Nat
  deadBand  : Nat
  tMax      : Nat
  bMin      : Nat
  bypassMax : Nat
deriving DecidableEq, Repr

/-- LINE group, in item order (13.2). -/
structure LineParams where
  tMin          : Nat
  confirmTime   : Nat
  holdLimit     : Nat
  burnoutTime   : Nat
  ratedHeat     : Nat
  strokeMass    : Nat
  strokeTimeout : Nat
  hNet          : Nat
  eta           : Nat
  ramp          : Nat
  minLoad       : Nat
  base          : Nat
  gain          : Nat
  acidThreshold : Nat
  dMax          : Nat
  reagentStep   : Nat
  guardStep     : Nat
  guardFloor    : Nat
  deviationCeil : Nat
  episodeLimit  : Nat
  ratedSteam    : Nat
  weight        : Nat
deriving DecidableEq, Repr

/-- QUANTITY group, in item order (13.2); `basis` is 0 DRY or 1 WET. -/
structure QuantityParams where
  basis      : Nat
  hhLimit    : Nat
  dailyLimit : Nat
deriving DecidableEq, Repr

/-- TURBINE group, in item order (13.2); `sigmaH` exists in TURBINE 2 only and is not used for T1. -/
structure TurbineParams where
  s0           : Nat
  sigma        : Nat
  sigmaH       : Nat
  sMax         : Nat
  sWarm        : Nat
  ramp         : Nat
  runupTimeout : Nat
  ratedSpeed   : Nat
  overspeed    : Nat
  teeth        : Nat
deriving DecidableEq, Repr

/-- BUS group, in item order (13.2). -/
structure BusParams where
  baud            : Nat
  turnaround      : Nat
  responseTimeout : Nat
deriving DecidableEq, Repr

/-- The parameter set of 137 values (R209); `classes` is the NOTICE CLASS group in kind code order. -/
structure Params where
  plant    : PlantParams
  line     : PerLine LineParams
  quantity : PerPollutant QuantityParams
  turbine  : PerTurbine TurbineParams
  bus      : BusParams
  classes  : List Nat
deriving DecidableEq, Repr

/-- Source of the configuration (R197, R213). -/
inductive ConfigSource where
  | image | defaults
deriving DecidableEq, Repr

/-- Save state (R214). -/
inductive SaveState where
  | idle | writing | verifying
deriving DecidableEq, Repr

/-- The snapshot of a save (R214): parameter values and the identifier bound to each role, by index. -/
structure Snapshot where
  params   : Params
  bindings : List (Option StationId)
deriving DecidableEq, Repr

/-- The CMC (R209, R214) and the external configuration memory behind its SPI port (R212): a sparse
list of cells with strictly rising addresses, none equal to what an unlisted address reads as. -/
structure Cmc where
  params   : Params
  stored   : List (Option StationId)
  source   : ConfigSource
  imageCrc : Nat
  save     : SaveState
  snapshot : Option Snapshot
  memory   : List Host.Cell
deriving DecidableEq, Repr

/-! ## The part -/

/-- Reset causes (R197). -/
inductive ResetCause where
  | power | pin | restart
deriving DecidableEq, Repr

/-- Every block of the part. `ready` is set at the ready point (R216); `feedStop` is the filtered level
of FEED-STOP, true when asserted (R17); `order` is the MODEL's own field: the order in which owners take
deliveries that come together, where the spec gives none. -/
structure Block where
  ready    : Bool
  cause    : ResetCause
  feedStop : Bool
  order    : List Owner
  clock    : Clock
  lines    : PerLine Line
  blu      : Blu
  tdu      : Tdu
  bus      : Bus
  link     : Link
  notices  : Notices
  rcs      : RecordStore
  cmc      : Cmc
deriving DecidableEq, Repr

/-- The machine: the queue of waiting commands, first in first out, and the part. -/
structure State where
  pending : List Instr
  block   : Block
deriving DecidableEq, Repr

/-- The machine never stops: every command of the table has an effect in every state, so there is no fault. -/
inductive Fault where
deriving DecidableEq, Repr

/-- The only refusal is of a command without a meaning; `exec` has a meaning for every command, so no
arm raises it. Raised by `exec` alone, and safe: the machine stops instead of guessing. -/
inductive Refusal where
  | notModelled (mnemonic : String)
deriving DecidableEq, Repr

/-! ## Values after a full reset -/

/-- The same value for every line. -/
def PerLine.const {α : Type} (a : α) : PerLine α := ⟨a, a, a⟩
/-- The same value for every pollutant. -/
def PerPollutant.const {α : Type} (a : α) : PerPollutant α := ⟨a, a, a, a, a⟩
/-- The same value for every quantity. -/
def PerQuantity.const {α : Type} (a : α) : PerQuantity α := ⟨.const a, a, a⟩

/-- Full-reset values of the line state record (R1). -/
def Lsc.reset : Lsc := ⟨.idle, false, .none, none, false, 0, 0, 0, [], none⟩

/-- Full-reset values of the GFU (R34, R40, R41, R50, R51, R52, R53). -/
def Gfu.reset : Gfu where
  load := 0
  target := 0
  ceiling := Config.maxLoad
  lastFiring := 0
  acc := 0
  rate := 0
  phase := .none
  age := 0
  owed := false
  latch := false
  faults := 0
  completed := 0
  dropped := 0
  ramFaults := 0
  fedMass := 0
  steamSum := 0
  steamCount := 0
  ring := []
  lhv := Config.lhvInit
  estResult := .none
  usable := 0
  lastRaw := none

/-- An empty half-hour table (R67). -/
def emptyTable : List (Option MinuteSlot) := List.replicate 30 none

/-- The empty day accumulator (R75). -/
def DayAcc.empty : DayAcc := ⟨0, 0, .const ⟨0, 0, 0⟩⟩

/-- Full-reset values of the EAU (R56, R82). -/
def Eau.reset : Eau where
  active := .none
  roleA := ⟨false, false, false⟩
  roleB := ⟨false, false, false⟩
  switches := 0
  samples := .const ⟨0, 0⟩
  mass := 0
  table := emptyTable
  day := .empty
  tallies := .const 0
  last := none

/-- The empty cause set. -/
def Causes.empty : Causes := ⟨false, false, false⟩

/-- Full-reset values of the CCU (R83). -/
def Ccu.reset : Ccu where
  acidIndex := none
  trim := 0
  demand := 0
  atMax := 0
  unmatched := .closes []
  reagent := Config.maxLoad
  guard := Config.maxLoad
  guardStepping := false
  host := Config.maxLoad
  deviation := Config.maxLoad
  effective := Config.maxLoad
  causes := .empty
  dosingLost := false
  dosingFault := false
  actualRate := none
  lowerings := 0
  releases := 0

/-- Full-reset values of the DAU (R101). -/
def Dau.reset : Dau := ⟨.empty, none, 0, false, none, 0, none⟩

/-- A line after a full reset. -/
def Line.reset : Line := ⟨.reset, .reset, .reset, .reset, .reset⟩

/-- Full-reset values of the BLU (R116). R116 gives the stale mark of a line no value: it is false here (DESIGN
CHOICE, notes/assumptions/51.md). -/
def Blu.reset : Blu where
  copies := .const ⟨.idle, Config.maxLoad, none, false⟩
  pressure := none
  flow := none
  trim := 0
  uncontrolled := 0
  demand := 0
  demandCut := 0
  cut1 := 0
  cut2 := 0
  residual := 0
  elShort := 0
  heatShort := 0
  figures := .const none
  surplus := 0
  target := 0
  unabsorbed := 0
  setpoint := 0
  short := false
  saturated := false
  stamp := none

/-- Full-reset values of a turbine (R143, R145, R154). The trip input is taken at the ready point (R216);
until then it stands RELEASED, a DESIGN CHOICE (notes/assumptions/3.md). -/
def Turbine.reset : Turbine where
  state := .offline
  mark := .zero
  targetBefore := 0
  targetAfter := 0
  setpoint := 0
  frozen := false
  runup := 0
  qual := 0
  tripInput := false
  lastTrip := none
  trips := 0
  station := ⟨false, false, none, .unknown, none⟩
  speed := ⟨.slow, false, 0, 0, .stopped, 0, 0⟩

/-- Full-reset values of the TDU (R137, R142, R143). -/
def Tdu.reset : Tdu := ⟨[], ⟨0, 0, none, none, 0⟩, 0, 0, ⟨.reset, .reset⟩⟩

/-- Full-reset values of the walk record (R177). -/
def Walk.reset : Walk := ⟨false, none, [], .none, none, 0, 0, 0, none⟩

/-- Full-reset values of the SBM (R160, R175); the baud is the default until the load (R209). -/
def Bus.reset : Bus := ⟨.free, false, none, [], 0, 115200, [], .reset⟩

/-- The link baud set by the straps BAUD1 and BAUD0, true for high (R190). -/
def linkBaud : Bool → Bool → Nat
  | false, false => 57600
  | false, true  => 115200
  | true,  false => 230400
  | true,  true  => 460800

/-- Full-reset values of the link record (R190). -/
def Link.reset (baud1 baud0 : Bool) : Link where
  baud := linkBaud baud1 baud0
  receiver := false
  lineLow := false
  assembler := .hunt
  assembly := []
  requests := []
  outbound := []
  sending := false
  sent := 0
  rdyo := false
  restartPending := false
  restartDue := false
  awaiting := false
  stray := 0
  gap := 0
  crc := 0
  overrun := 0

/-- Parameter defaults (13.2). -/
def PlantParams.default : PlantParams := ⟨110, 4000, 200, 5, 100, 20, 600⟩

/-- Defaults of the LINE group (13.2). -/
def LineParams.default : LineParams where
  tMin := 8500
  confirmTime := 120
  holdLimit := 1800
  burnoutTime := 5400
  ratedHeat := 37500
  strokeMass := 500
  strokeTimeout := 90
  hNet := 2800
  eta := 830
  ramp := 50
  minLoad := 600
  base := 120
  gain := 200
  acidThreshold := 500
  dMax := 400
  reagentStep := 50
  guardStep := 50
  guardFloor := 400
  deviationCeil := 800
  episodeLimit := 240
  ratedSteam := 400
  weight := 10

/-- Defaults of the NOTICE CLASS group, kinds 1 to 27 (chapter 12.1). -/
def defaultClasses : List Nat :=
  [2, 3, 1, 2, 3, 3, 2, 2, 2, 2, 1, 2, 1, 3, 2, 3, 2, 2, 3, 2, 2, 0, 1, 2, 2, 1, 2]

/-- The parameter set at its defaults (13.2). -/
def Params.default : Params where
  plant := .default
  line := .const .default
  quantity := ⟨⟨0, 300, 100⟩, ⟨0, 1000, 500⟩, ⟨0, 4000, 2000⟩, ⟨0, 2000, 500⟩, ⟨1, 600, 100⟩⟩
  turbine :=
    ⟨⟨60, 420, 0, 700, 30, 60, 1800, 3000, 3300, 60⟩,
     ⟨40, 1100, 148, 450, 25, 60, 1800, 3000, 3300, 60⟩⟩
  bus := ⟨115200, 2, 5⟩
  classes := defaultClasses

/-- No stored binding for any of the 19 roles. -/
def noBindings : List (Option StationId) := List.replicate 19 none

/-- The part after a full reset with the given cause, straps and configuration memory, before the ready
point (R216): every block at its full-reset values, the receiver off and RDYO deasserted (R190). The source,
the image CRC and the stored bindings stand as with the defaults until the load: DESIGN CHOICE
(notes/assumptions/3.md). -/
def Block.fullReset (cause : ResetCause) (baud1 baud0 : Bool) (memory : List Host.Cell)
    (order : List Owner) : Block where
  ready := false
  cause := cause
  feedStop := false
  order := order
  clock := ⟨none, 0, 0, none, []⟩
  lines := .const .reset
  blu := .reset
  tdu := .reset
  bus := .reset
  link := .reset baud1 baud0
  notices := ⟨0, []⟩
  rcs := ⟨[], 1, 0⟩
  cmc := ⟨.default, noBindings, .defaults, 0, .idle, none, memory⟩

/-- The machine right after a full reset by power-on, with both straps low, a blank configuration
memory and no command waiting (DESIGN CHOICE for the straps and the memory, notes/assumptions/3.md). -/
def State.reset : State := ⟨[], Block.fullReset .power false false [] []⟩

end Sys2Proof.Machine
end

