-- ==== Sys2Proof/Machine/Arith.lean ====
section
/-! DEFINITION. Integer arithmetic of the spec's Conventions, selection in per-line and per-quantity
families, and the calendar of chapter 2. -/

namespace Sys2Proof.Machine
open Sys2Proof

/-! ## Arithmetic (Conventions / Arithmetic) -/

/-- round-half-up of `a / d`: half the divisor is added to the dividend before the floor is taken. -/
def roundHalfUp (a d : Nat) : Nat := (2 * a + d) / (2 * d)

/-- Clamped to `[lo, hi]`. -/
def clamp (lo hi x : Nat) : Nat := if x < lo then lo else if hi < x then hi else x

/-- A counter that saturates at `n`, increased by `k`. -/
def satAdd (n x k : Nat) : Nat := min n (x + k)

/-- Lowered to the multiple of 10 at or below it (R38, R144). -/
def downTo10 (x : Nat) : Nat := x / 10 * 10

/-- `x` moved toward `target` by at most `step` (R36, R149). -/
def moveToward (x target step : Nat) : Nat :=
  if x < target then min (x + step) target
  else if target < x then max (x - step) target
  else x

/-! ## Per-line, per-turbine, per-pollutant families -/

/-- The lines in line-number order. -/
def allLines : List LineId := [.l1, .l2, .l3]

/-- The line number, 1 to 3. -/
def lineNumber : LineId → Nat
  | .l1 => 1
  | .l2 => 2
  | .l3 => 3

/-- The line of a number, none outside 1 to 3 (R194). -/
def lineOf : Nat → Option LineId
  | 1 => some .l1
  | 2 => some .l2
  | 3 => some .l3
  | _ => none

/-- The turbine number, 1 or 2. -/
def turbineNumber : TurbineId → Nat
  | .t1 => 1
  | .t2 => 2

/-- The turbine of a number, none outside 1 to 2 (R194). -/
def turbineOf : Nat → Option TurbineId
  | 1 => some .t1
  | 2 => some .t2
  | _ => none

namespace PerLine
variable {α β : Type}

/-- The value of one line. -/
def get (p : PerLine α) : LineId → α
  | .l1 => p.l1
  | .l2 => p.l2
  | .l3 => p.l3

/-- The family with one line's value replaced. -/
def set (p : PerLine α) (l : LineId) (a : α) : PerLine α :=
  match l with
  | .l1 => { p with l1 := a }
  | .l2 => { p with l2 := a }
  | .l3 => { p with l3 := a }

/-- A family computed line by line. -/
def tabulate (f : LineId → α) : PerLine α := ⟨f .l1, f .l2, f .l3⟩

end PerLine

namespace PerTurbine
variable {α : Type}

/-- The value of one turbine. -/
def get (p : PerTurbine α) : TurbineId → α
  | .t1 => p.t1
  | .t2 => p.t2

/-- The family with one turbine's value replaced. -/
def set (p : PerTurbine α) (t : TurbineId) (a : α) : PerTurbine α :=
  match t with
  | .t1 => { p with t1 := a }
  | .t2 => { p with t2 := a }

end PerTurbine

/-- The pollutants in index order (chapter 4.1). -/
def allPollutants : List Pollutant := [.dust, .co, .nox, .so2, .hcl]

/-- The pollutant index, 1 to 5. -/
def Pollutant.index : Pollutant → Nat
  | .dust => 1
  | .co => 2
  | .nox => 3
  | .so2 => 4
  | .hcl => 5

/-- The pollutant of an index. -/
def pollutantOf : Nat → Option Pollutant
  | 1 => some .dust
  | 2 => some .co
  | 3 => some .nox
  | 4 => some .so2
  | 5 => some .hcl
  | _ => none

namespace PerPollutant
variable {α β : Type}

/-- The value of one pollutant. -/
def get (p : PerPollutant α) : Pollutant → α
  | .dust => p.dust
  | .co => p.co
  | .nox => p.nox
  | .so2 => p.so2
  | .hcl => p.hcl

/-- The family with one pollutant's value replaced. -/
def set (p : PerPollutant α) (x : Pollutant) (a : α) : PerPollutant α :=
  match x with
  | .dust => { p with dust := a }
  | .co => { p with co := a }
  | .nox => { p with nox := a }
  | .so2 => { p with so2 := a }
  | .hcl => { p with hcl := a }

/-- A family computed pollutant by pollutant. -/
def tabulate (f : Pollutant → α) : PerPollutant α := ⟨f .dust, f .co, f .nox, f .so2, f .hcl⟩

/-- The values in index order. -/
def toList (p : PerPollutant α) : List α := [p.dust, p.co, p.nox, p.so2, p.hcl]

end PerPollutant

namespace PerQuantity
variable {α β : Type}

/-- A family of quantities computed from two, quantity by quantity. -/
def zipWith (f : α → β → β) (p : PerQuantity α) (q : PerQuantity β) : PerQuantity β :=
  ⟨.tabulate fun x => f (p.pol.get x) (q.pol.get x), f p.o2 q.o2, f p.h2o q.h2o⟩

/-- The values in index order: the pollutants, O2, H2O. -/
def toList (p : PerQuantity α) : List α := p.pol.toList ++ [p.o2, p.h2o]

end PerQuantity

/-! ## The calendar (R23) -/

/-- A year divisible by 4 is a leap year (R23). -/
def isLeap (year : Nat) : Bool := year % 4 == 0

/-- The number of days of a year (R23). -/
def daysIn (year : Nat) : Nat := if isLeap year then 366 else 365

namespace Time

/-- Minute-of-day (R23). -/
def minuteOfDay (t : Time) : Nat := t.second / 60

/-- Half-hour index (R23). -/
def halfHour (t : Time) : Nat := t.second / 1800

/-- Minute-of-half-hour (R23). -/
def minuteOfHalfHour (t : Time) : Nat := t.second / 60 % 30

/-- The minute open at a time (R23, R26). -/
def minuteId (t : Time) : MinuteId := ⟨t.year, t.day, t.minuteOfDay⟩

/-- The time one second later, none after the last second of 2099 (R24). -/
def advance (t : Time) : Option Time :=
  if t.second + 1 < 86400 then some { t with second := t.second + 1 }
  else if t.day + 1 ≤ daysIn t.year then some ⟨t.year, t.day + 1, 0⟩
  else if t.year + 1 ≤ 2099 then some ⟨t.year + 1, 1, 0⟩
  else none

/-- A valid date and second (R28 test 1). -/
def valid (t : Time) : Bool :=
  decide (2001 ≤ t.year) && decide (t.year ≤ 2099) && decide (1 ≤ t.day) &&
    decide (t.day ≤ daysIn t.year) && decide (t.second ≤ 86399)

/-- Seconds from the start of day 1 of 2001 (R196). -/
def sinceEpoch (t : Time) : Nat :=
  ((List.range (t.year - 2001)).foldl (fun n k => n + daysIn (2001 + k)) 0 + (t.day - 1)) * 86400
    + t.second

end Time

namespace EffTime

/-- A valid effective time (R137, R138). -/
def valid (t : EffTime) : Bool :=
  decide (2001 ≤ t.year) && decide (t.year ≤ 2099) && decide (1 ≤ t.day) &&
    decide (t.day ≤ daysIn t.year) && decide (t.minute ≤ 1439)

/-- Earlier, compared by year, then day, then minute-of-day (R137). -/
def before (a b : EffTime) : Bool :=
  decide (a.year < b.year) ||
    (a.year == b.year && (decide (a.day < b.day) || (a.day == b.day && decide (a.minute < b.minute))))

end EffTime

end Sys2Proof.Machine
end

