-- ==== Sys2Proof/Machine/Operands.lean ====
section
/-! DEFINITION. Operand forms of messages: field encodings (R196), codes, identifiers (R162), the CRC
(R162, R191), host frames (chapter 11.2), the request kinds with their payload lengths (chapter 11.5),
and the roles with their indices (chapter 10.2). -/

namespace Sys2Proof.Machine
open Sys2Proof

/-! ## Field encodings (R196) -/

/-- A byte holding `n`. -/
def byte (n : Nat) : Byte := BitVec.ofNat 8 n

/-- Unsigned, 1 byte. -/
def u8 (n : Nat) : List Byte := [byte n]

/-- Unsigned, 2 bytes, least significant first (R191). -/
def u16 (n : Nat) : List Byte := [byte n, byte (n / 256)]

/-- Unsigned, 4 bytes, least significant first. -/
def u32 (n : Nat) : List Byte := [byte n, byte (n / 256), byte (n / 65536), byte (n / 16777216)]

/-- Signed, 4 bytes, two's complement. -/
def i32 (z : Int) : List Byte := u32 (BitVec.ofInt 32 z).toNat

/-- A flag, 1 byte. -/
def flag (b : Bool) : List Byte := u8 (if b then 1 else 0)

/-- A field that may be absent: a presence byte, then the field, `size` zero bytes when absent. -/
def optional {α : Type} (size : Nat) (enc : α → List Byte) : Option α → List Byte
  | some a => byte 1 :: enc a
  | none => byte 0 :: List.replicate size (byte 0)

/-- A set: bit 0 for the first member listed, bit 1 for the next, and so on. -/
def setBits : List Bool → Nat
  | [] => 0
  | b :: bs => (if b then 1 else 0) + 2 * setBits bs

/-- A stamp, 5 bytes (R196). -/
def encStamp : Stamp → List Byte
  | .clock t => byte 1 :: u32 t.sinceEpoch
  | .uptime n => byte 2 :: u32 n

/-- A stamp that may be absent, whose own mark 0 says so. -/
def encStamp? : Option Stamp → List Byte
  | some s => encStamp s
  | none => List.replicate 5 (byte 0)

/-- A year, day and second as in a request (R196). -/
def encTime (t : Time) : List Byte := u16 t.year ++ u16 t.day ++ u32 t.second

/-- An effective time (R196). -/
def encEffTime (t : EffTime) : List Byte := u16 t.year ++ u16 t.day ++ u16 t.minute

/-- An identifier, 6 bytes: the kind byte, then the serial, most significant byte first (R162, R196). -/
def encIdent (i : StationId) : List Byte :=
  [i.kind, byte (i.serial.toNat / 4294967296), byte (i.serial.toNat / 16777216),
   byte (i.serial.toNat / 65536), byte (i.serial.toNat / 256), byte i.serial.toNat]

/-- The number little-endian bytes hold. -/
def leNat : List Byte → Nat
  | [] => 0
  | b :: bs => b.toNat + 256 * leNat bs

/-- The number big-endian bytes hold. -/
def beNat (bs : List Byte) : Nat := bs.foldl (fun n b => 256 * n + b.toNat) 0

/-- The bytes `from` to `from + size` of a payload, as a little-endian number. -/
def field (payload : List Byte) (start size : Nat) : Nat := leNat ((payload.drop start).take size)

/-- The identifier in 6 bytes (R162). -/
def decIdent (bs : List Byte) : StationId := ⟨bs.getD 0 0, BitVec.ofNat 40 (beNat ((bs.drop 1).take 5))⟩

/-! ## CRC (R162, R191): x¹⁶+x¹²+x⁵+1, initial value 0xFFFF, no reflection, no final XOR -/

/-- One bit of the CRC. -/
def crcBit (c : Word16) : Word16 := if c.msb then (c <<< 1) ^^^ 0x1021#16 else c <<< 1

/-- One byte of the CRC. -/
def crcByte (c : Word16) (b : Byte) : Word16 :=
  crcBit (crcBit (crcBit (crcBit (crcBit (crcBit (crcBit (crcBit (c ^^^ (b.setWidth 16 <<< 8)))))))))

/-- The CRC of a run of bytes. -/
def crc16 (bs : List Byte) : Word16 := bs.foldl crcByte 0xFFFF#16

/-- The two CRC bytes, high byte first. -/
def crcBytes (bs : List Byte) : List Byte := [byte ((crc16 bs).toNat / 256), byte (crc16 bs).toNat]

/-! ## Host frames (chapter 11.2) -/

/-- A frame's bytes from the length through the payload, which the CRC covers (R191). -/
def frameCore (kind tag : Byte) (payload : List Byte) : List Byte :=
  byte (payload.length + 2) :: kind :: tag :: payload

/-- A whole frame (R191). -/
def frameBytes (kind tag : Byte) (payload : List Byte) : List Byte :=
  byte 0xC3 :: (frameCore kind tag payload ++ crcBytes (frameCore kind tag payload))

/-- Bytes a request holds in the inbound buffer: N + 4, with N the payload and two (R191). -/
def Request.size (r : Request) : Nat := r.payload.length + 6

/-- Request kinds (chapter 11.5). -/
inductive ReqKind where
  | ident | clockSet | clockRead | paramSet | paramGet | configSave | allowanceRestore
  | lineStart | lineFeed | lineStop | lineCeiling | lineDeclare
  | turbineStart | turbineStop | tripReset
  | scheduleAdd | scheduleCancel | scheduleList
  | stationEnrol | stationList | stationBind | stationUnbind | stationForget
  | recordsFetch | statusLine | statusTurbine | statusPlant
  | noticeList | noticeClear | noticeFloor | restart
deriving DecidableEq, Repr

/-- Kind codes of the requests (chapter 11.5). -/
def ReqKind.code : ReqKind → Nat
  | .ident => 0x01
  | .clockSet => 0x02
  | .clockRead => 0x03
  | .paramSet => 0x04
  | .paramGet => 0x05
  | .configSave => 0x06
  | .allowanceRestore => 0x07
  | .lineStart => 0x10
  | .lineFeed => 0x11
  | .lineStop => 0x12
  | .lineCeiling => 0x13
  | .lineDeclare => 0x14
  | .turbineStart => 0x18
  | .turbineStop => 0x19
  | .tripReset => 0x1A
  | .scheduleAdd => 0x20
  | .scheduleCancel => 0x21
  | .scheduleList => 0x22
  | .stationEnrol => 0x28
  | .stationList => 0x29
  | .stationBind => 0x2A
  | .stationUnbind => 0x2B
  | .stationForget => 0x2C
  | .recordsFetch => 0x30
  | .statusLine => 0x38
  | .statusTurbine => 0x39
  | .statusPlant => 0x3A
  | .noticeList => 0x40
  | .noticeClear => 0x41
  | .noticeFloor => 0x42
  | .restart => 0x48

/-- Payload lengths of the requests (chapter 11.5). -/
def ReqKind.length : ReqKind → Nat
  | .clockSet => 8
  | .paramSet => 7
  | .paramGet => 3
  | .allowanceRestore => 15
  | .lineCeiling => 3
  | .lineDeclare => 2
  | .lineStart | .lineFeed | .lineStop => 1
  | .turbineStart | .turbineStop | .tripReset => 1
  | .scheduleAdd => 10
  | .scheduleCancel => 6
  | .stationList => 1
  | .stationBind => 2
  | .stationUnbind | .stationForget => 1
  | .recordsFetch => 5
  | .statusLine | .statusTurbine => 1
  | .noticeList => 1
  | .noticeClear => 2
  | .noticeFloor => 1
  | .ident | .clockRead | .configSave | .scheduleList | .stationEnrol | .statusPlant | .restart => 0

/-- The request kinds of the kind table. -/
def allReqKinds : List ReqKind :=
  [.ident, .clockSet, .clockRead, .paramSet, .paramGet, .configSave, .allowanceRestore,
   .lineStart, .lineFeed, .lineStop, .lineCeiling, .lineDeclare,
   .turbineStart, .turbineStop, .tripReset, .scheduleAdd, .scheduleCancel, .scheduleList,
   .stationEnrol, .stationList, .stationBind, .stationUnbind, .stationForget,
   .recordsFetch, .statusLine, .statusTurbine, .statusPlant,
   .noticeList, .noticeClear, .noticeFloor, .restart]

/-- The request kind of a code, none for any other code, the part kinds included (R194 test 1). -/
def reqKindOf (code : Byte) : Option ReqKind := allReqKinds.find? fun k => k.code == code.toNat

/-! ## Refusals (R195) -/

/-- Refusal codes (R195). -/
inductive RefusalCode where
  | unknownKind | badLength | range | wrongState | notReady | busy | full | noSuch | unbound
  | kindMismatch | roleTaken | inhibited | causeOpen | exhausted | wrongYear
deriving DecidableEq, Repr

/-- The number of a refusal code (R195). -/
def RefusalCode.number : RefusalCode → Nat
  | .unknownKind => 1
  | .badLength => 2
  | .range => 3
  | .wrongState => 4
  | .notReady => 5
  | .busy => 6
  | .full => 7
  | .noSuch => 8
  | .unbound => 9
  | .kindMismatch => 10
  | .roleTaken => 11
  | .inhibited => 12
  | .causeOpen => 13
  | .exhausted => 14
  | .wrongYear => 15

/-- NOT_READY detail codes (R195). -/
inductive NotReadyDetail where
  | clock | allowance | feederRole | furnaceRole | dosingRole | analyzerRole | lost
deriving DecidableEq, Repr

/-- The number of a NOT_READY detail code (R195). -/
def NotReadyDetail.number : NotReadyDetail → Nat
  | .clock => 1
  | .allowance => 2
  | .feederRole => 3
  | .furnaceRole => 4
  | .dosingRole => 5
  | .analyzerRole => 6
  | .lost => 7

/-- The part's answer to a request (R195): DONE with reply fields, or REFUSED with a code and detail. -/
inductive Reply where
  | done (fields : List Byte)
  | refused (code : RefusalCode) (detail : Nat)
deriving DecidableEq, Repr

/-- A refusal without detail (R195: 0 except after NOT_READY). -/
def refuse (c : RefusalCode) : Reply := .refused c 0

/-- A NOT_READY refusal (R195). -/
def notReady (d : NotReadyDetail) : Reply := .refused .notReady d.number

/-- The frame of a reply (R195): kind DONE 0x80 or REFUSED 0x81, the request's tag, the request's kind first. -/
def replyFrame (kind tag : Byte) : Reply → List Byte
  | .done fields => frameBytes (byte 0x80) tag (kind :: fields)
  | .refused c d => frameBytes (byte 0x81) tag [kind, byte c.number, byte d]

/-! ## Roles (chapter 10.2) -/

/-- The roles in index order. -/
def allRoles : List Role :=
  [.feeder .l1, .furnace .l1, .analyzerA .l1, .analyzerB .l1, .dosing .l1,
   .feeder .l2, .furnace .l2, .analyzerA .l2, .analyzerB .l2, .dosing .l2,
   .feeder .l3, .furnace .l3, .analyzerA .l3, .analyzerB .l3, .dosing .l3,
   .header, .turbine .t1, .turbine .t2, .bypass]

/-- The index of a role, 1 to 19 (chapter 10.2). -/
def Role.index : Role → Nat
  | .feeder l => 5 * (lineNumber l - 1) + 1
  | .furnace l => 5 * (lineNumber l - 1) + 2
  | .analyzerA l => 5 * (lineNumber l - 1) + 3
  | .analyzerB l => 5 * (lineNumber l - 1) + 4
  | .dosing l => 5 * (lineNumber l - 1) + 5
  | .header => 16
  | .turbine .t1 => 17
  | .turbine .t2 => 18
  | .bypass => 19

/-- The role of an index, none outside 1 to 19 (R194). -/
def roleOf (index : Nat) : Option Role := if index = 0 then none else allRoles[index - 1]?

/-- The kind of station a role takes (chapter 10.2). -/
def Role.kind : Role → StationKind
  | .feeder _ => .feeder
  | .furnace _ => .furnace
  | .analyzerA _ => .analyzer
  | .analyzerB _ => .analyzer
  | .dosing _ => .dosing
  | .header => .header
  | .turbine _ => .turbine
  | .bypass => .bypass

/-- The kind of a kind code, none outside 1 to 7 (R162, R179). -/
def kindOf (code : Byte) : Option StationKind :=
  [none, some .feeder, some .furnace, some .analyzer, some .dosing, some .header, some .turbine,
    some StationKind.bypass].getD code.toNat none

end Sys2Proof.Machine
end

