-- ==== Sys2Proof/Machine/Flags.lean ====
section
/-! DEFINITION. Codes of states, statuses and causes (R196: the position in the defining list, unless a
table numbers the value), and the sets and flag bytes of replies and records. -/

namespace Sys2Proof.Machine
open Sys2Proof

def LineState.code : LineState → Nat
  | .idle => 0
  | .warmup => 1
  | .firing => 2
  | .hold => 3
  | .rundown => 4

def RundownCause.code : RundownCause → Nat
  | .none => 0
  | .host => 1
  | .holdLimit => 2
  | .feedstop => 3
  | .feedFault => 4
  | .episodeLimit => 5
  | .allowance => 6

/-- OK 0, FAULT 1 (R165). -/
def OkFault.code : OkFault → Nat
  | .ok => 0
  | .fault => 1

def Phase.code : Phase → Nat
  | .none => 0
  | .extending => 1
  | .retracting => 2

/-- HOLD 0, EXTEND 1, RETRACT 2 (R164). -/
def FeederCommand.code : FeederCommand → Nat
  | .hold => 0
  | .extend => 1
  | .retract => 2

def EstResult.code : EstResult → Nat
  | .none => 0
  | .few => 1
  | .light => 2
  | .updated => 3
  | .low => 4
  | .high => 5

def Selection.code : Selection → Nat
  | .a => 0
  | .b => 1
  | .none => 2

def MinuteStatus.code : MinuteStatus → Nat
  | .excluded => 0
  | .clock => 1
  | .noO2 => 2
  | .dilute => 3
  | .noH2O => 4
  | .moist => 5
  | .noData => 6
  | .valid => 7

def LimitReached.code : LimitReached → Nat
  | .none => 0
  | .episodeLimit => 1
  | .allowance => 2
  | .both => 3

def CloseReason.code : CloseReason → Nat
  | .cleared => 0
  | .idle => 1

def TurbineState.code : TurbineState → Nat
  | .offline => 0
  | .runup => 1
  | .online => 2
  | .unloading => 3
  | .tripped => 4

def Mark.code : Mark → Nat
  | .free => 0
  | .warming => 1
  | .zero => 2
  | .frozen => 3

/-- INPUT 0, OVERSPEED 1: the list of TURBINE_TRIP (R202). -/
def TripCause.code : TripCause → Nat
  | .input => 0
  | .overspeed => 1

/-- OPEN 0, CLOSED 1, UNKNOWN 2 (R165, R158). -/
def Breaker.code : Breaker → Nat
  | .opened => 0
  | .closed => 1
  | .unknown => 2

def SpeedRange.code : SpeedRange → Nat
  | .fast => 0
  | .slow => 1

def SpeedStatus.code : SpeedStatus → Nat
  | .stopped => 0
  | .measuring => 1
  | .valid => 2

def WalkOrigin.code : WalkOrigin → Nat
  | .host => 0
  | .start => 1

def WalkEnd.code : WalkEnd → Nat
  | .complete => 0
  | .full => 1

def ResetCause.code : ResetCause → Nat
  | .power => 0
  | .pin => 1
  | .restart => 2

def ConfigSource.code : ConfigSource → Nat
  | .image => 0
  | .defaults => 1

/-- ASSERTED 0, RELEASED 1: the list of R22, R143 and, for ATTN, R202. -/
def levelCode (asserted : Bool) : Nat := if asserted then 0 else 1

/-- The role index, 0 for NONE (R202). -/
def roleCode : Option Role → Nat
  | some r => r.index
  | none => 0

/-! ## Causes (R101, R102) -/

/-- The three causes. -/
inductive Cause where
  | analyzer | dosing | declared
deriving DecidableEq, Repr

namespace Causes

/-- The set is empty. -/
def isEmpty (c : Causes) : Bool := !c.analyzer && !c.dosing && !c.declared

/-- The set with one cause present or absent. -/
def put (c : Causes) (x : Cause) (present : Bool) : Causes :=
  match x with
  | .analyzer => { c with analyzer := present }
  | .dosing => { c with dosing := present }
  | .declared => { c with declared := present }

/-- The union of two sets. -/
def union (c d : Causes) : Causes :=
  ⟨c.analyzer || d.analyzer, c.dosing || d.dosing, c.declared || d.declared⟩

/-- The set's byte (R196), members as R101 lists them. -/
def bits (c : Causes) : Nat := setBits [c.analyzer, c.dosing, c.declared]

end Causes

/-! ## Firing conditions (R7) -/

/-- The nine firing conditions in the order of R7. -/
def allFiringConds : List FiringCond :=
  [.feedRequest, .feedstop, .temperature, .feeder, .furnace, .dosing, .analyzer, .causes, .allowance]

/-- The two bytes of a set of firing conditions (R196: 2 bytes for more than 8 members). -/
def condBits (cs : List FiringCond) : Nat := setBits (allFiringConds.map fun c => cs.contains c)

/-! ## Notice kinds (chapter 12.1) -/

/-- The notice kinds in code order. -/
def allNoticeKinds : List NoticeKind :=
  [.tempLow, .holdLimit, .feedLag, .ramFault, .feedFault, .feedstop, .guardActive, .reagentLimit,
   .exceedance, .dayDeficient, .analyzerSwitch, .deviationOpen, .deviationClosed, .episodeLimit,
   .allowanceLow, .allowanceExhausted, .commitShort, .bypassSat, .turbineTrip, .runupTimeout,
   .stationLost, .stationBack, .enrolDone, .duplicateId, .recordsLost, .linkError, .config]

def NoticeKind.code : NoticeKind → Nat
  | .tempLow => 1
  | .holdLimit => 2
  | .feedLag => 3
  | .ramFault => 4
  | .feedFault => 5
  | .feedstop => 6
  | .guardActive => 7
  | .reagentLimit => 8
  | .exceedance => 9
  | .dayDeficient => 10
  | .analyzerSwitch => 11
  | .deviationOpen => 12
  | .deviationClosed => 13
  | .episodeLimit => 14
  | .allowanceLow => 15
  | .allowanceExhausted => 16
  | .commitShort => 17
  | .bypassSat => 18
  | .turbineTrip => 19
  | .runupTimeout => 20
  | .stationLost => 21
  | .stationBack => 22
  | .enrolDone => 23
  | .duplicateId => 24
  | .recordsLost => 25
  | .linkError => 26
  | .config => 27

/-- The notice kind of a code, none outside 1 to 27. -/
def noticeKindOf (code : Nat) : Option NoticeKind := if code = 0 then none else allNoticeKinds[code - 1]?

/-- Whether a subject code lies in the range of the kind's subject (chapter 12.1). -/
def NoticeKind.subjectOk (k : NoticeKind) (subject : Nat) : Bool :=
  match k with
  | .commitShort | .bypassSat | .enrolDone | .duplicateId | .recordsLost | .linkError | .config =>
    subject == 0
  | .turbineTrip | .runupTimeout => decide (1 ≤ subject) && decide (subject ≤ 2)
  | .stationLost | .stationBack => decide (1 ≤ subject) && decide (subject ≤ 24)
  | _ => decide (1 ≤ subject) && decide (subject ≤ 3)

/-! ## Record layouts (chapter 12.4) -/

/-- A year in 1 byte, the year minus 2000. -/
def yearByte (y : Nat) : List Byte := u8 (y - 2000)

/-- An EPISODE stamp, 6 bytes. -/
def episodeStamp : Stamp → List Byte
  | .clock t => u8 1 ++ yearByte t.year ++ u16 t.day ++ u16 t.minuteOfDay
  | .uptime n => u8 2 ++ u32 n ++ u8 0

/-- Record kinds (12.4). -/
def RecordBody.kindCode : RecordBody → Nat
  | .halfHour _ => 0
  | .day _ => 1
  | .episode _ => 2

/-- A quantity of a HALF_HOUR record: average, valid minutes, flags PRESENT, VALID, PARTIAL, OVER, EXCEEDED. -/
def HalfHourQuantity.encode (q : HalfHourQuantity) : List Byte :=
  u16 (q.average.getD 0) ++ u8 q.minutes ++
    u8 (setBits [q.average.isSome, q.valid, q.partials, q.overRange, q.exceeded])

/-- A pollutant of a DAY record: average, valid, invalid, flags PRESENT, VALID, DEFICIENT, EXCEEDED.
The average is valid whenever it is present (R76). What the two bytes hold of one above 65535 is a free value
(DESIGN CHOICE, notes/assumptions/52.md). -/
def DayQuantity.encode (q : DayQuantity) : List Byte :=
  u16 (q.average.elim 0 fun a => if a ≤ Config.max16 then a else (Config.dayAveragePastRange a).toNat) ++
    u8 q.valid ++ u8 q.invalid ++
    u8 (setBits [q.average.isSome, q.average.isSome, q.deficient, q.exceeded])

/-- The bytes after the common header. -/
def RecordBody.encode : RecordBody → List Byte
  | .halfHour r =>
    yearByte r.year ++ u16 r.day ++ u8 r.index ++ u8 r.counted ++ u8 r.deviation ++
      u16 r.allowanceUsed ++ u16 r.mass ++ u8 (setBits [r.complete, r.cut]) ++
      r.quantities.toList.flatMap HalfHourQuantity.encode
  | .day r =>
    yearByte r.year ++ u16 r.day ++ u8 r.complete ++ u8 r.partials ++ u8 (setBits [r.cut]) ++
      r.pol.toList.flatMap DayQuantity.encode
  | .episode r =>
    episodeStamp r.opened ++ episodeStamp r.closed ++ u8 r.minutes ++ u8 r.causesSeen.bits ++
      u8 r.reason.code ++ u8 r.limit.code ++ u16 r.usedAtClose ++
      (match r.restoredYear with
        | some y => yearByte y
        | none => u8 0)

/-- A record as it travels: the common header of kind, serial and line, then the body (12.4). -/
def StoredRecord.encode (r : StoredRecord) : List Byte :=
  u8 r.body.kindCode ++ u32 r.serial ++ u8 (lineNumber r.line) ++ r.body.encode

end Sys2Proof.Machine
end

