-- ==== Sys2Proof/Machine/Ops.lean ====
section
/-! DEFINITION. The shared operations: access to one block's record, stamps (R27), the configuration
memory, the outbound buffer, raising a notice (R203), and entering a record (R207). -/

namespace Sys2Proof.Machine
open Sys2Proof

/-- The outcome of a command: the next state, with the part changed and the queue as it was. -/
def State.onBlock (f : Block → Block) (s : State) : Host.Outcome State Fault Refusal :=
  .next { s with block := f s.block }

/-- A RESTART has been taken and its full reset has not come: pending until its DONE is sent, then due (R199). -/
def Link.restarting (k : Link) : Bool := k.restartPending || k.restartDue

/-! ## One block's record -/

namespace Block

/-- The blocks of one line. -/
def line (b : Block) (l : LineId) : Line := b.lines.get l

/-- The parameters of one line. -/
def lineParams (b : Block) (l : LineId) : LineParams := b.cmc.params.line.get l

/-- The parameters of one turbine. -/
def turbineParams (b : Block) (t : TurbineId) : TurbineParams := b.cmc.params.turbine.get t

/-- One turbine. -/
def turbine (b : Block) (t : TurbineId) : Turbine := b.tdu.turbines.get t

def modLine (b : Block) (l : LineId) (f : Line → Line) : Block :=
  { b with lines := b.lines.set l (f (b.lines.get l)) }

def modLsc (b : Block) (l : LineId) (f : Lsc → Lsc) : Block :=
  b.modLine l fun x => { x with lsc := f x.lsc }

def modGfu (b : Block) (l : LineId) (f : Gfu → Gfu) : Block :=
  b.modLine l fun x => { x with gfu := f x.gfu }

def modEau (b : Block) (l : LineId) (f : Eau → Eau) : Block :=
  b.modLine l fun x => { x with eau := f x.eau }

def modCcu (b : Block) (l : LineId) (f : Ccu → Ccu) : Block :=
  b.modLine l fun x => { x with ccu := f x.ccu }

def modDau (b : Block) (l : LineId) (f : Dau → Dau) : Block :=
  b.modLine l fun x => { x with dau := f x.dau }

def modBlu (b : Block) (f : Blu → Blu) : Block := { b with blu := f b.blu }

def modCopy (b : Block) (l : LineId) (f : LineCopy → LineCopy) : Block :=
  b.modBlu fun x => { x with copies := x.copies.set l (f (x.copies.get l)) }

def modTdu (b : Block) (f : Tdu → Tdu) : Block := { b with tdu := f b.tdu }

def modTurbine (b : Block) (t : TurbineId) (f : Turbine → Turbine) : Block :=
  b.modTdu fun x => { x with turbines := x.turbines.set t (f (x.turbines.get t)) }

def modBus (b : Block) (f : Bus → Bus) : Block := { b with bus := f b.bus }

def modWalk (b : Block) (f : Walk → Walk) : Block := b.modBus fun x => { x with walk := f x.walk }

def modLink (b : Block) (f : Link → Link) : Block := { b with link := f b.link }

def modNotices (b : Block) (f : List NoticeEntry → List NoticeEntry) : Block :=
  { b with notices := { b.notices with entries := f b.notices.entries } }

def modCmc (b : Block) (f : Cmc → Cmc) : Block := { b with cmc := f b.cmc }

/-- The clock is RUNNING (R23). -/
def running (b : Block) : Bool := b.clock.time.isSome

/-- The stamp taken now (R27): clock time while RUNNING, uptime while UNSET. -/
def now (b : Block) : Stamp :=
  match b.clock.time with
  | some t => .clock t
  | none => .uptime b.clock.uptime

/-- The line is in FIRING or HOLD. -/
def inService (b : Block) (l : LineId) : Bool :=
  match (b.line l).lsc.state with
  | .firing | .hold => true
  | _ => false

/-- The line is IDLE. -/
def idle (b : Block) (l : LineId) : Bool := (b.line l).lsc.state == .idle

/-- All three lines are IDLE. -/
def allIdle (b : Block) : Bool := allLines.all b.idle

/-- The turbine is OFFLINE. -/
def offline (b : Block) (t : TurbineId) : Bool := (b.turbine t).state == .offline

/-! ## The station and role tables (R175, R176) -/

/-- The entry of a number. -/
def station (b : Block) (n : Nat) : Option Station := b.bus.stations.find? fun e => e.number == n

/-- The entry a role names: the role table's place. -/
def holder (b : Block) (r : Role) : Option Station := b.bus.stations.find? fun e => e.role == some r

/-- The role is bound. -/
def bound (b : Block) (r : Role) : Bool := (b.holder r).isSome

/-- The role is bound to a healthy station: enrolled and not LOST. -/
def healthy (b : Block) (r : Role) : Bool :=
  match b.holder r with
  | some e => !e.lost
  | none => false

/-! ## The outbound buffer (R190, R194) -/

/-- Bytes held in the outbound buffer: those of a message being sent leave it as they are sent (R193). -/
def outboundHeld (b : Block) : Nat := (b.link.outbound.map List.length).sum - b.link.sent

/-- Bytes free in the outbound buffer. -/
def outboundFree (b : Block) : Nat := Config.outboundSize - b.outboundHeld

/-- A message placed in the outbound buffer. -/
def place (b : Block) (msg : List Byte) : Block :=
  b.modLink fun k => { k with outbound := k.outbound ++ [msg] }

end Block

/-! ## The configuration memory: sparse cells in canonical form -/

namespace Memory

/-- What an unlisted address reads as: a blank serial memory. DESIGN CHOICE (notes/assumptions/4.md). -/
def blank : Byte := 0xFF#8

/-- The byte at an address. -/
def read : List Host.Cell → Nat → Byte
  | [], _ => blank
  | (a, v) :: m, x => if a = x then v else if x < a then blank else read m x

/-- The memory with a byte written: sorted, with no cell equal to the blank. -/
def write : List Host.Cell → Nat → Byte → List Host.Cell
  | [], x, v => if v = blank then [] else [(x, v)]
  | (a, w) :: m, x, v =>
    if x < a then (if v = blank then (a, w) :: m else (x, v) :: (a, w) :: m)
    else if x = a then (if v = blank then m else (x, v) :: m)
    else (a, w) :: write m x v

/-- The canonical form: addresses strictly rising, inside the memory, and no cell equal to the blank. -/
def wf : List Host.Cell → Bool
  | [] => true
  | [(a, v)] => decide (v ≠ blank) && decide (a < Config.memorySize)
  | (a, v) :: (a', v') :: m => decide (v ≠ blank) && decide (a < a') && wf ((a', v') :: m)

/-- A run of writes, first to last; a write outside the memory reaches no cell. -/
def writeAll (m : List Host.Cell) (ws : List (Nat × Byte)) : List Host.Cell :=
  ws.foldl (fun m w => if w.1 < Config.memorySize then write m w.1 w.2 else m) m

/-- The `n` bytes from address `a`. -/
def readRun (m : List Host.Cell) (a n : Nat) : List Byte := (List.range n).map fun k => read m (a + k)

end Memory

/-! ## The notice table (R202 to R206) -/

/-- A detail of 6 bytes: the values, then zero bytes (R202). -/
def padDetail (d : List Byte) : List Byte := (d ++ List.replicate 6 (byte 0)).take 6

/-- Table order: kind code first, then subject (chapter 12.1). -/
def NoticeEntry.before (e f : NoticeEntry) : Bool :=
  decide (e.kind.code < f.kind.code) || (e.kind == f.kind && decide (e.subject < f.subject))

/-- The entry of this kind and subject. -/
def NoticeEntry.is (e : NoticeEntry) (k : NoticeKind) (subject : Nat) : Bool :=
  e.kind == k && e.subject == subject

/-- An entry put in its place in table order. -/
def insertEntry (e : NoticeEntry) : List NoticeEntry → List NoticeEntry
  | [] => [e]
  | f :: fs => if e.before f then e :: f :: fs else f :: insertEntry e fs

namespace Block

/-- The class of a kind in force. -/
def classOf (b : Block) (k : NoticeKind) : Nat := b.cmc.params.classes.getD (k.code - 1) 0

/-- A kind whose class is above the floor (R202). -/
def aboveFloor (b : Block) (k : NoticeKind) : Bool := decide (b.notices.floor < b.classOf k)

/-- The ATTN output is asserted (R202): some pending entry is above the floor. -/
def attn (b : Block) : Bool := b.notices.entries.any fun e => b.aboveFloor e.kind

/-- The entry of a kind and subject, none when it is clear. -/
def notice (b : Block) (k : NoticeKind) (subject : Nat) : Option NoticeEntry :=
  b.notices.entries.find? fun e => e.is k subject

/-- Room and leave to place a NOTICE message (R203): 32 bytes free, 282 while a request awaits its
reply, and no restart pending or due. -/
def noticeFits (b : Block) : Bool :=
  decide ((if b.link.awaiting then Config.noticeRoomInRequest else Config.noticeRoom) ≤ b.outboundFree)
    && !b.link.restarting

/-- The NOTICE message of an entry as it stands (chapter 12.2, message layout). -/
def noticeFrame (b : Block) (e : NoticeEntry) : List Byte :=
  frameBytes (byte 0x82) (byte 0)
    (u8 e.kind.code ++ u8 e.subject ++ u8 (b.classOf e.kind) ++ u8 e.count ++
      encStamp e.first ++ encStamp e.last ++ padDetail e.detail)

/-- An entry that has just become pending above the floor, or has just risen above it: its message is
placed if there is room, and owed otherwise (R203, R204). -/
def announce (b : Block) (k : NoticeKind) (subject : Nat) : Block :=
  match b.notice k subject with
  | none => b
  | some e =>
    if b.noticeFits then b.place (b.noticeFrame e)
    else b.modNotices fun es => es.map fun x => if x.is k subject then { x with owed := true } else x

/-- A notice raised (R203). -/
def raise (b : Block) (k : NoticeKind) (subject : Nat) (detail : List Byte) : Block :=
  match b.notice k subject with
  | some _ =>
    b.modNotices fun es => es.map fun x =>
      if x.is k subject then
        { x with count := satAdd Config.max8 x.count 1, last := b.now, detail := padDetail detail }
      else x
  | none =>
    let b' := b.modNotices (insertEntry ⟨k, subject, 1, b.now, b.now, padDetail detail, false⟩)
    if b.aboveFloor k then b'.announce k subject else b'

/-- A line's notice. -/
def raiseLine (b : Block) (k : NoticeKind) (l : LineId) (detail : List Byte) : Block :=
  b.raise k (lineNumber l) detail

/-- Owed entries sent as room allows, in table order, along the given entries (R204). -/
def sendOwedAlong : List NoticeEntry → Block → Block
  | [], b => b
  | e :: es, b =>
    if e.owed && b.aboveFloor e.kind && b.noticeFits then
      sendOwedAlong es
        ((b.place (b.noticeFrame e)).modNotices fun xs =>
          xs.map fun x => if x.is e.kind e.subject then { x with owed := false } else x)
    else sendOwedAlong es b

/-- Owed entries sent as room allows (R204). -/
def sendOwed (b : Block) : Block := sendOwedAlong b.notices.entries b

/-- Entries that changed their position relative to the floor, along the given entries (R204, R205):
one that fell has owed set to 0, one that rose is treated as newly raised. `wasAbove` is the old position. -/
def refloorAlong (wasAbove : NoticeKind → Bool) : List NoticeEntry → Block → Block
  | [], b => b
  | e :: es, b =>
    refloorAlong wasAbove es
      (if wasAbove e.kind && !b.aboveFloor e.kind then
        b.modNotices fun xs => xs.map fun x =>
          if x.is e.kind e.subject then { x with owed := false } else x
      else if !wasAbove e.kind && b.aboveFloor e.kind then b.announce e.kind e.subject
      else b)

/-- The effect of a change of floor or class on every pending entry (R204, R205). -/
def refloor (wasAbove : NoticeKind → Bool) (b : Block) : Block :=
  refloorAlong wasAbove b.notices.entries b

/-! ## The Record Store (R207) -/

/-- The serial that follows another: 1 follows 4294967295 (R207). -/
def serialAfter (n : Nat) : Nat := if n = Config.maxSerial then 1 else n + 1

/-- A record handed over (R207): with 192 held the oldest is removed first, with RECORDS_LOST. -/
def enterRecord (b : Block) (l : LineId) (body : RecordBody) : Block :=
  let entry : StoredRecord := ⟨b.rcs.nextSerial, l, body⟩
  let added (rs : List StoredRecord) (loss : Nat) : RecordStore :=
    ⟨rs ++ [entry], serialAfter b.rcs.nextSerial, loss⟩
  match b.rcs.records with
  | [] => { b with rcs := added [] b.rcs.lossCount }
  | old :: rest =>
    if Config.storeSize ≤ b.rcs.records.length then
      { b with rcs := added rest (satAdd Config.max16 b.rcs.lossCount 1) }.raise .recordsLost 0
        (u32 old.serial ++ u8 old.body.kindCode)
    else { b with rcs := added (old :: rest) b.rcs.lossCount }

end Block

end Sys2Proof.Machine
end

