-- ==== Sys2Proof/Machine/Ceilings.lean ====
section
/-! DEFINITION. The CCU's ceilings and its minute work (chapter 5): effective ceiling (R97), deviation
term (R96), line state changes (R98), pairing and minute work (R85 to R87, R91 to R95). -/

namespace Sys2Proof.Machine
open Sys2Proof

/-! ## The effective ceiling (R97, R37) -/

/-- The least of the terms in force (R97). -/
def Ccu.leastTerm (c : Ccu) : Nat :=
  min Config.maxLoad (min c.host (min c.guard (min c.reagent c.deviation)))

/-- The GFU takes a new effective ceiling (R34, R37): in FIRING a load above it is lowered to it. -/
def Gfu.takeCeiling (g : Gfu) (firing : Bool) (c : Nat) : Gfu :=
  if firing && decide (c < g.load) then { g with ceiling := c, load := c, lastFiring := c }
  else { g with ceiling := c }

namespace Block

/-- The recomputation of R97: a changed effective ceiling is stored and delivered to the GFU and the BLU. -/
def recompute (b : Block) (l : LineId) : Block :=
  let c := (b.line l).ccu.leastTerm
  if c = (b.line l).ccu.effective then b
  else
    ((b.modCcu l fun x => { x with effective := c }).modGfu l fun g =>
        g.takeCeiling ((b.line l).lsc.state == .firing) c).modCopy l fun x => { x with ceiling := c }

/-- LINE CEILING's write of the host ceiling (R19, R96). -/
def setHostCeiling (b : Block) (l : LineId) (v : Nat) : Block :=
  (b.modCcu l fun x => { x with host := v }).recompute l

/-- The DAU delivers a change of the cause set (R96): the copy and the deviation term. -/
def takeCauses (b : Block) (l : LineId) (c : Causes) : Block :=
  (b.modCcu l fun x =>
    { x with causes := c
             deviation := if c.isEmpty then Config.maxLoad else (b.lineParams l).deviationCeil }).recompute l

/-- PARAM SET wrote the deviation ceiling (R96): with a non-empty copy the term takes it at the write. -/
def deviationCeilingWritten (b : Block) (l : LineId) : Block :=
  if (b.line l).ccu.causes.isEmpty then b
  else (b.modCcu l fun x => { x with deviation := (b.lineParams l).deviationCeil }).recompute l

/-- The CCU takes a line state change (R98). -/
def ccuEnter (b : Block) (l : LineId) (st : LineState) : Block :=
  match st with
  | .warmup =>
    (b.modCcu l fun x =>
      { x with guard := Config.maxLoad, reagent := Config.maxLoad, deviation := Config.maxLoad
               guardStepping := false, atMax := 0 }).recompute l
  | .idle =>
    b.modCcu l fun x => { x with demand := 0, trim := 0, atMax := 0, acidIndex := none }
  | .firing | .hold | .rundown => b

end Block

/-! ## Minute work, on the CCU's record (R86 to R95) -/

/-- The part index of a VALID minute (R86). -/
def partIndex (m : PolMinute) (limit : Nat) : Option Nat :=
  m.cn.map fun cn => min Config.max16 (cn * 1000 / limit)

/-- The acid index of a hand-over: the larger of the part indexes present (R86). -/
def acidIndexOf (h : HandOver) (so2Limit hclLimit : Nat) : Option Nat :=
  match partIndex h.so2 so2Limit, partIndex h.hcl hclLimit with
  | some a, some c => some (max a c)
  | some a, none => some a
  | none, some c => some c
  | none, none => none

/-- The trim of an acid index (R86). -/
def trimOf (p : LineParams) (index : Nat) : Nat :=
  if p.acidThreshold < index then min Config.maxTrim (p.gain * (index - p.acidThreshold) / 1000) else 0

/-- R86: the acid index field and the trim take the new values where a minute is VALID, else hold. -/
def Ccu.trimStep (p : LineParams) (index : Option Nat) (c : Ccu) : Ccu :=
  match index with
  | some i => { c with acidIndex := some i, trim := trimOf p i }
  | none => c

/-- R87: the dosing demand. -/
def Ccu.demandStep (p : LineParams) (load : Nat) (c : Ccu) : Ccu :=
  { c with demand := clamp 0 p.dMax (p.base * load / 1000 + c.trim) }

/-- R91: the at-max count. -/
def Ccu.atMaxStep (p : LineParams) (c : Ccu) : Ccu :=
  { c with atMax := if c.demand = p.dMax then satAdd Config.max8 c.atMax 1 else 0 }

/-- The reagent ceiling after a lowering (R92). -/
def loweredReagent (p : LineParams) (load reagent : Nat) : Nat :=
  min reagent (max p.minLoad (min reagent load - p.reagentStep))

/-- R92 and R93: the reagent ceiling lowered at 3 or more at-max works, released below 900 ‰ of D_max. -/
def Ccu.reagentStep (p : LineParams) (load : Nat) (c : Ccu) : Ccu :=
  if Config.atMaxMinutes ≤ c.atMax then
    { c with reagent := loweredReagent p load c.reagent, lowerings := satAdd Config.max16 c.lowerings 1 }
  else if c.demand < p.dMax * 900 / 1000 then
    let r := min Config.maxLoad (c.reagent + p.reagentStep)
    { c with reagent := r
             releases := if r = c.reagent then c.releases else satAdd Config.max16 c.releases 1 }
  else c

/-- A running mean of a pollutant qualified for the guard: a valid count of 5 or more (R94). -/
def RunningMean.qualified (m : RunningMean) : Option Nat :=
  if Config.guardValid ≤ m.count then m.mean else none

/-- The lowest-indexed qualified pollutant above its 900 ‰ threshold (R94). -/
def guardAbove (means : PerPollutant RunningMean) (limits : PerPollutant Nat) : Option Pollutant :=
  allPollutants.find? fun x =>
    match (means.get x).qualified with
    | some m => decide ((limits.get x) * 900 / 1000 < m)
    | none => false

/-- At least one qualified pollutant, and every one below its 800 ‰ threshold (R95). -/
def guardClear (means : PerPollutant RunningMean) (limits : PerPollutant Nat) : Bool :=
  (allPollutants.any fun x => (means.get x).qualified.isSome) &&
  allPollutants.all fun x =>
    match (means.get x).qualified with
    | some m => decide (m < (limits.get x) * 800 / 1000)
    | none => true

/-- R94 and R95: the guard ceiling lowered, raised or held; held while the copy contains ANALYZER. -/
def Ccu.guardStep (p : LineParams) (means : PerPollutant RunningMean) (limits : PerPollutant Nat)
    (c : Ccu) : Ccu :=
  if c.causes.analyzer then c
  else
    match guardAbove means limits with
    | some _ =>
      { c with guard := min c.guard (max p.guardFloor (c.guard - p.guardStep)), guardStepping := true }
    | none =>
      { c with guardStepping := false
               guard := if guardClear means limits then min Config.maxLoad (c.guard + p.guardStep)
                        else c.guard }

namespace Block

/-- The HH limits in force (R55). -/
def hhLimits (b : Block) : PerPollutant Nat := .tabulate fun x => (b.cmc.params.quantity.get x).hhLimit

/-- REAGENT_LIMIT where the at-max count has just reached 3 (R92). -/
def raiseReagentLimit (b : Block) (l : LineId) : Block :=
  let c := (b.line l).ccu
  if c.atMax = Config.atMaxMinutes then b.raiseLine .reagentLimit l (u16 c.reagent) else b

/-- GUARD_ACTIVE where the guard evaluation just began to lower (R94). -/
def raiseGuardActive (b : Block) (l : LineId) (steppingBefore : Bool) (above : Option Pollutant) : Block :=
  match above with
  | some x =>
    if (b.line l).ccu.guardStepping && !steppingBefore then
      b.raiseLine .guardActive l (u8 x.index ++ u16 (b.line l).ccu.guard)
    else b
  | none => b

/-- The minute work of a line in FIRING or HOLD (R85): R86, R87, R91 to R95 in that order, then R97. -/
def minuteWork (b : Block) (l : LineId) (h : HandOver) : Block :=
  if b.inService l then
    let p := b.lineParams l
    let load := (b.line l).gfu.lastFiring
    let limits := b.hhLimits
    let stepping := (b.line l).ccu.guardStepping
    let above := if (b.line l).ccu.causes.analyzer then none else guardAbove h.means limits
    let b1 := b.modCcu l fun c =>
      (((c.trimStep p (acidIndexOf h limits.so2 limits.hcl)).demandStep p load).atMaxStep p).reagentStep p load
    let b2 := b1.raiseReagentLimit l
    let b3 := b2.modCcu l fun c => c.guardStep p h.means limits
    (b3.raiseGuardActive l stepping above).recompute l
  else b

/-- The CCU takes a minute close (R85): paired with the oldest unmatched hand-over, or kept. -/
def ccuClose (b : Block) (l : LineId) (m : MinuteId) : Block :=
  match (b.line l).ccu.unmatched with
  | .handOvers (h :: hs) =>
    (b.modCcu l fun c => { c with unmatched := if hs.isEmpty then .closes [] else .handOvers hs }).minuteWork l h
  | .handOvers [] => b.modCcu l fun c => { c with unmatched := .closes [m] }
  | .closes ms => b.modCcu l fun c => { c with unmatched := .closes (ms ++ [m]) }

/-- The CCU takes a hand-over of R68 (R85): paired with the oldest unmatched close, or kept. -/
def ccuHandOver (b : Block) (l : LineId) (h : HandOver) : Block :=
  match (b.line l).ccu.unmatched with
  | .closes (_ :: ms) => (b.modCcu l fun c => { c with unmatched := .closes ms }).minuteWork l h
  | .closes [] => b.modCcu l fun c => { c with unmatched := .handOvers [h] }
  | .handOvers hs => b.modCcu l fun c => { c with unmatched := .handOvers (hs ++ [h]) }

end Block

end Sys2Proof.Machine
end

