-- ==== Sys2Proof/Machine/Deviation.lean ====
section
/-! DEFINITION. The DAU's causes and episodes (chapter 6): the cause set (R102), opening (R103) and
closing (R109) an episode, and the CCU's DOSING cause (R89, R90) that feeds it. -/

namespace Sys2Proof.Machine
open Sys2Proof
namespace Block

/-- An episode opened now (R103, R104), with DEVIATION_OPEN. -/
def openEpisode (b : Block) (l : LineId) : Block :=
  let causes := (b.line l).dau.causes
  (b.modDau l fun d => { d with episode := some ⟨b.now, causes, 0, .none⟩ }).raiseLine .deviationOpen l
    (u8 causes.bits)

/-- The EPISODE record of an episode closed now (R110). -/
def episodeRecord (b : Block) (l : LineId) (e : Episode) (reason : CloseReason) : EpisodeRecord :=
  ⟨e.openStamp, b.now, e.minutes, e.causesSeen, reason, e.limit,
    (b.line l).dau.used, (b.line l).dau.restoredYear⟩

/-- The close of the open episode (R109): the record, DEVIATION_CLOSED, the counters; nothing if none is open. -/
def closeEpisode (b : Block) (l : LineId) (reason : CloseReason) : Block :=
  match (b.line l).dau.episode with
  | none => b
  | some e =>
    ((b.enterRecord l (.episode (b.episodeRecord l e reason))).raiseLine .deviationClosed l
        (u8 reason.code)).modDau l fun d =>
      { d with closed := satAdd Config.max16 d.closed 1
               last := some ⟨reason, e.minutes, b.now⟩
               episode := none }

/-- A cause becomes true or false (R102): joined to an open episode, an episode opened or closed, and
the new set delivered to the CCU. A delivery that leaves the set as it was changes nothing. -/
def setCause (b : Block) (l : LineId) (x : Cause) (present : Bool) : Block :=
  let old := (b.line l).dau.causes
  let new := old.put x present
  if new = old then b
  else
    let b1 := b.modDau l fun d =>
      { d with causes := new
               episode := d.episode.map fun e => { e with causesSeen := e.causesSeen.union new } }
    let b2 :=
      if old.isEmpty && !new.isEmpty then
        (if b1.inService l && (b1.line l).dau.episode.isNone then b1.openEpisode l else b1)
      else if !old.isEmpty && new.isEmpty then b1.closeEpisode l .cleared
      else b1
    b2.takeCauses l new

/-- The DAU takes a line state change (R103, R109): an episode opens on entry to FIRING or HOLD with
causes present, and closes on entry to IDLE. The new state has been stored. -/
def dauEnter (b : Block) (l : LineId) (st : LineState) : Block :=
  match st with
  | .firing | .hold =>
    if (b.line l).dau.episode.isNone && !(b.line l).dau.causes.isEmpty then b.openEpisode l else b
  | .idle => b.closeEpisode l .idle
  | .warmup | .rundown => b

/-- The DOSING cause as the CCU's flags give it (R90). -/
def dosingCause (b : Block) (l : LineId) : Bool :=
  (b.line l).ccu.dosingLost || (b.line l).ccu.dosingFault

/-- An event on the CCU's dosing flags (R90): a cause that changed is delivered to the DAU at that event. -/
def dosingEvent (b : Block) (l : LineId) (f : Ccu → Ccu) : Block :=
  let b1 := b.modCcu l f
  if b1.dosingCause l = b.dosingCause l then b1 else b1.setCause l .dosing (b1.dosingCause l)

/-- A good reply of the DOSING station (R89); where it also returns a LOST one the two are one event (R90). -/
def dosingReply (b : Block) (l : LineId) (rate : Nat) (status : OkFault) (returned : Bool) : Block :=
  b.dosingEvent l fun c =>
    { c with actualRate := some rate
             dosingLost := c.dosingLost && !returned
             dosingFault := status == .fault }

/-- The DOSING station becomes LOST (R90). -/
def dosingLoss (b : Block) (l : LineId) : Block := b.dosingEvent l fun c => { c with dosingLost := true }

/-- The DOSING role is bound (R90). -/
def dosingBound (b : Block) (l : LineId) (lost : Bool) : Block :=
  b.dosingEvent l fun c => { c with dosingLost := lost, dosingFault := false }

/-- The DOSING role is unbound (R90): the actual rate becomes absent. -/
def dosingUnbound (b : Block) (l : LineId) : Block :=
  b.dosingEvent l fun c => { c with dosingLost := false, dosingFault := false, actualRate := none }

end Block

end Sys2Proof.Machine
end

