-- ==== Sys2Proof/Machine/Lines.lean ====
section
/-! DEFINITION. The Line Sequence Controller (chapter 1) and what its state changes do to the GFU's
record (chapter 3): delivery of a line state (R21), rundown (R10), hold (R8), the firing conditions (R7),
the transitions of a second tick (R7, R9, R14), furnace samples and losses (R2, R4), FEED-STOP (R17, R18). -/

namespace Sys2Proof.Machine
open Sys2Proof

/-! ## The GFU takes a line state (R35, R41, R47, R48, R51, R53) -/

/-- An abort (R47): any stroke in flight ends, nothing is owed, the ram is commanded RETRACT. -/
def Gfu.abort (g : Gfu) : Gfu := { g with phase := .none, age := 0, owed := false, latch := true }

/-- The GFU takes the line's new state. -/
def Gfu.enter (g : Gfu) (minLoad : Nat) (st : LineState) : Gfu :=
  match st with
  | .firing =>
    { g with load := min minLoad g.ceiling, lastFiring := min minLoad g.ceiling, acc := 0, latch := false }
  | .hold => { g with load := 0, target := 0, owed := false }
  | .rundown => { g with load := 0, target := 0 }.abort
  | .idle => { g with load := 0, target := 0, lastFiring := 0 }
  | .warmup =>
    { g with load := 0, target := 0, lastFiring := 0, faults := 0
             ring := [], estResult := .none, usable := 0, lastRaw := none }

/-- The feeder command (R41). -/
def Gfu.command (g : Gfu) : FeederCommand :=
  match g.phase with
  | .extending => .extend
  | .retracting => .retract
  | .none => if g.latch then .retract else .hold

namespace Block

/-- A change of line state, with its deliveries to the GFU, CCU, DAU and BLU (R21). The pending
conditions are empty outside WARMUP and, on its entry, until the next second tick (R22). -/
def enter (b : Block) (l : LineId) (st : LineState) : Block :=
  (((((b.modLsc l fun x => { x with state := st, pendingConds := [] }).modGfu l fun g =>
    g.enter (b.lineParams l).minLoad st).modCopy l fun x => { x with state := st }).ccuEnter l st).dauEnter l st)

/-- Every entry to RUNDOWN (R10). A rundown still waiting to be taken then finds the line in RUNDOWN, and has no
effect (R13, R108). -/
def enterRundown (b : Block) (l : LineId) (cause : RundownCause) : Block :=
  (b.modLsc l fun x =>
    { x with cause := cause, feedRequested := false, burnout := 0, hold := 0, limitDue := none }).enter l .rundown

/-- A rundown cause reaches the LSC: taken in FIRING or HOLD, without effect otherwise (R12, R13). -/
def takeRundown (b : Block) (l : LineId) (cause : RundownCause) : Block :=
  if b.inService l then b.enterRundown l cause else b

/-- A rundown its DAU delivers to the LSC waits to be taken (R108). -/
def deliverLimit (b : Block) (l : LineId) (cause : Option RundownCause) : Block :=
  b.modLsc l fun x => { x with limitDue := cause.or x.limitDue }

/-- The LSC takes the rundown its DAU has delivered, if one waits (R108): in FIRING or HOLD under R10, without
effect in RUNDOWN (R13). -/
def takeLimit (b : Block) (l : LineId) : Block :=
  match (b.line l).lsc.limitDue with
  | none => b
  | some c => (b.takeRundown l c).modLsc l fun x => { x with limitDue := none }

/-- Every rundown that waits is taken. -/
def takeLimits (b : Block) : Block := allLines.foldl takeLimit b

/-- Every entry to IDLE (R14). -/
def enterIdle (b : Block) (l : LineId) : Block :=
  (b.modLsc l fun x => { x with feedRequested := false, burnout := 0, hold := 0 }).enter l .idle

/-- Entry to WARMUP, from IDLE under R5 or from RUNDOWN under R15. -/
def enterWarmup (b : Block) (l : LineId) (feed : Bool) : Block :=
  (b.modLsc l fun x => { x with feedRequested := feed, burnout := 0 }).enter l .warmup

/-- Causes of TEMP_LOW (R202). -/
inductive TempCause where
  | sample | fault | lost
deriving DecidableEq, Repr

def TempCause.code : TempCause → Nat
  | .sample => 0
  | .fault => 1
  | .lost => 2

/-- Entry to HOLD (R8), with TEMP_LOW. -/
def enterHold (b : Block) (l : LineId) (cause : TempCause) : Block :=
  ((b.modLsc l fun x => { x with hold := 0 }).enter l .hold).raiseLine .tempLow l (u8 cause.code)

/-! ## Furnace temperature (R2, R4) -/

/-- A furnace sample (R2): stored; hot follows it; one that makes hot 0 clears the confirm timer and takes
a FIRING line to HOLD. -/
def furnaceSample (b : Block) (l : LineId) (temp : Nat) (status : OkFault) : Block :=
  let isHot := status == .ok && decide ((b.lineParams l).tMin ≤ temp)
  let b1 := b.modLsc l fun x =>
    { x with sample := some ⟨temp, status⟩, hot := isHot, confirm := if isHot then x.confirm else 0 }
  if !isHot && (b.line l).lsc.state == .firing then
    b1.enterHold l (if status = .ok then .sample else .fault)
  else b1

/-- hot, the confirm timer and the sample cleared by loss or unbinding of the FURNACE station (R4). -/
def furnaceCleared (b : Block) (l : LineId) : Block :=
  b.modLsc l fun x => { x with sample := none, hot := false, confirm := 0 }

/-- Loss of the FURNACE station at the LSC (R4). -/
def furnaceLoss (b : Block) (l : LineId) : Block :=
  let b1 := b.furnaceCleared l
  if (b.line l).lsc.state == .firing then b1.enterHold l .lost else b1

/-- A ram fault or a lost feeder at the LSC (R11): FIRING or HOLD to RUNDOWN with FEED_FAULT raised. -/
def feedFault (b : Block) (l : LineId) (lost : Bool) : Block :=
  if b.inService l then
    (b.enterRundown l .feedFault).raiseLine .feedFault l (u8 (if lost then 1 else 0))
  else b

/-- Loss of the FEEDER station (R11, R47). -/
def feederLoss (b : Block) (l : LineId) : Block := (b.feedFault l true).modGfu l Gfu.abort

/-! ## The firing conditions (R7) -/

/-- Whether a firing condition holds (R7). -/
def condHolds (b : Block) (l : LineId) : FiringCond → Bool
  | .feedRequest => (b.line l).lsc.feedRequested
  | .feedstop => !b.feedStop
  | .temperature => decide ((b.lineParams l).confirmTime ≤ (b.line l).lsc.confirm)
  | .feeder => b.healthy (.feeder l)
  | .furnace => b.healthy (.furnace l)
  | .dosing => b.healthy (.dosing l)
  | .analyzer => b.healthy (.analyzerA l) || b.healthy (.analyzerB l)
  | .causes => (b.line l).dau.causes.isEmpty
  | .allowance => decide ((b.line l).dau.used < Config.allowance)

/-- The unmet firing conditions, in the order of R7. -/
def unmetConds (b : Block) (l : LineId) : List FiringCond :=
  allFiringConds.filter fun c => !b.condHolds l c

/-! ## The transitions tested at a second tick -/

/-- R7: a WARMUP line enters FIRING if every condition holds; otherwise the unmet ones become pending. A
FIRING_ENTRY given between two ticks writes them too: DEDUCED (notes/assumptions/2.md). -/
def tryFire (b : Block) (l : LineId) : Block :=
  if (b.line l).lsc.state = .warmup then
    (if b.unmetConds l = [] then b.enter l .firing
     else b.modLsc l fun x => { x with pendingConds := b.unmetConds l })
  else b

/-- R9, first test: a HOLD line whose confirm timer meets the confirm time returns to FIRING. -/
def tryHoldReturn (b : Block) (l : LineId) : Block :=
  if (b.line l).lsc.state = .hold ∧ b.condHolds l .temperature = true then
    (b.modLsc l fun x => { x with hold := 0 }).enter l .firing
  else b

/-- R9, second test: a HOLD line at its hold limit, not returning, enters RUNDOWN with HOLD_LIMIT. -/
def tryHoldLimit (b : Block) (l : LineId) : Block :=
  if (b.line l).lsc.state = .hold ∧ b.condHolds l .temperature = false ∧
      (b.lineParams l).holdLimit ≤ (b.line l).lsc.hold then
    (b.enterRundown l .holdLimit).raiseLine .holdLimit l []
  else b

/-- R14: a RUNDOWN line whose burnout timer meets the burnout time enters IDLE. -/
def tryBurnoutEnd (b : Block) (l : LineId) : Block :=
  if (b.line l).lsc.state = .rundown ∧ (b.lineParams l).burnoutTime ≤ (b.line l).lsc.burnout then
    b.enterIdle l
  else b

/-- The timers of the LSC at a second tick (R3, R9, R14). -/
def lscCount (x : Lsc) : Lsc :=
  { x with confirm := if x.hot then min 600 (x.confirm + 1) else 0
           hold := if x.state = .hold then x.hold + 1 else x.hold
           burnout := if x.state = .rundown then x.burnout + 1 else x.burnout }

/-- The second tick at the LSC of a line: the timers, then the transition its state tests (R7, R9, R14). -/
def lscTick (b : Block) (l : LineId) : Block :=
  let b1 := b.modLsc l lscCount
  match (b.line l).lsc.state with
  | .warmup => b1.tryFire l
  | .hold => (b1.tryHoldReturn l).tryHoldLimit l
  | .rundown => b1.tryBurnoutEnd l
  | .idle | .firing => b1

/-! ## FEED-STOP (R17, R18) -/

/-- A FEED-STOP assertion at one line (R17): FEEDSTOP with the state before, the LSC's action, the abort. -/
def feedStopLine (b : Block) (l : LineId) : Block :=
  let before := (b.line l).lsc.state
  let b1 :=
    match before with
    | .firing | .hold => b.enterRundown l .feedstop
    | .warmup => b.modLsc l fun x => { x with feedRequested := false }
    | .idle | .rundown => b
  (b1.modGfu l Gfu.abort).raiseLine .feedstop l (u8 before.code)

/-- A FEED-STOP assertion taken (R17). -/
def feedStopTaken (b : Block) : Block :=
  allLines.foldl feedStopLine { b with feedStop := true }

end Block

/-! ## Commands -/

/-- FIRING_ENTRY (R7). -/
def execFiringEntry (l : LineId) (s : State) : Host.Outcome State Fault Refusal :=
  s.onBlock fun b => b.tryFire l

/-- HOLD_RETURN (R9). -/
def execHoldReturn (l : LineId) (s : State) : Host.Outcome State Fault Refusal :=
  s.onBlock fun b => b.tryHoldReturn l

/-- HOLD_LIMIT (R9). -/
def execHoldLimit (l : LineId) (s : State) : Host.Outcome State Fault Refusal :=
  s.onBlock fun b => b.tryHoldLimit l

/-- BURNOUT_END (R14). -/
def execBurnoutEnd (l : LineId) (s : State) : Host.Outcome State Fault Refusal :=
  s.onBlock fun b => b.tryBurnoutEnd l

/-- FEED_STOP_ASSERT (R17): a level already asserted makes no change of level. -/
def execFeedStopAssert (s : State) : Host.Outcome State Fault Refusal :=
  s.onBlock fun b => if b.feedStop then b else b.feedStopTaken

/-- A FEED-STOP release taken (R18): the level alone changes. -/
def Block.feedStopReleased (b : Block) : Block := { b with feedStop := false }

/-- FEED_STOP_RELEASE (R18). -/
def execFeedStopRelease (s : State) : Host.Outcome State Fault Refusal := s.onBlock Block.feedStopReleased

end Sys2Proof.Machine
end

