-- ==== Sys2Proof/Machine/Feeding.lean ====
section
/-! DEFINITION. The Grate Feed Unit (chapter 3): load target (R36), pacer (R39, R40), strokes (R42 to
R46), the open minute (R50), the minute ring (R51) and the calorific value estimator (R52, R53). -/

namespace Sys2Proof.Machine
open Sys2Proof

/-! ## On the GFU's record -/

/-- The load moved toward a target by the ramp step, within the ceiling (R36). -/
def rampedLoad (load target ceiling step : Nat) : Nat :=
  if load < target then min (min (load + step) target) ceiling
  else if target < load then min (max (load - step) target) ceiling
  else load

/-- A load target taken in FIRING (R36). -/
def Gfu.takeTarget (g : Gfu) (target step : Nat) : Gfu :=
  let load := rampedLoad g.load target g.ceiling step
  { g with target := target, load := load, lastFiring := load }

/-- The stroke rate N, in hundredths of a stroke per hour (R39). -/
def strokeRate (p : LineParams) (load lhv : Nat) : Nat :=
  load * p.ratedHeat / 1000 * 3600 / lhv * 100 / p.strokeMass

/-- A stroke starts (R42). -/
def Gfu.startStroke (g : Gfu) : Gfu := { g with phase := .extending, age := 0, latch := false }

/-- Ram positions of a feeder report (R43), in the order of R165. -/
inductive RamPosition where
  | retracted | moving | extended
deriving DecidableEq, Repr

/-- A stroke completes (R44); an owed one starts at once where `mayStart`. -/
def Gfu.complete (g : Gfu) (mayStart : Bool) : Gfu :=
  let g1 := { g with phase := .none, age := 0, faults := 0, owed := false
                     completed := satAdd Config.max16 g.completed 1 }
  if g.owed && mayStart then g1.startStroke else g1

/-- A stroke timeout's effect on the record (R45). -/
def Gfu.timeOut (g : Gfu) : Gfu :=
  { g with phase := .none, age := 0, owed := false, latch := true
           faults := min 3 (g.faults + 1), ramFaults := satAdd Config.max16 g.ramFaults 1 }

/-- A sum that saturates (R50) at a bound the spec leaves open: `beyond` above 4294967295. DESIGN CHOICE for
the least bound (notes/assumptions/15.md). -/
def openSat (beyond n : Nat) : Nat := min n (Config.max32 + beyond)

/-- An OK steam sample added to the open minute (R50). -/
def Gfu.addSteam (g : Gfu) (steam : Nat) : Gfu :=
  { g with steamSum := openSat Config.steamSumBeyond (g.steamSum + steam)
           steamCount := openSat Config.steamCountBeyond (g.steamCount + 1) }

/-- The slot a minute close writes (R51). -/
def Gfu.slot (g : Gfu) (m : MinuteId) (firing : Bool) : RingSlot :=
  if firing then
    ⟨m, true, if g.steamCount = 0 then none else some (roundHalfUp g.steamSum g.steamCount), g.fedMass⟩
  else ⟨m, false, none, 0⟩

/-- The ring with a slot added as the newest, the oldest replaced when 30 are held (R51). -/
def pushSlot (ring : List RingSlot) (slot : RingSlot) : List RingSlot :=
  let r := ring ++ [slot]
  r.drop (r.length - Config.ringSlots)

/-- The usable slots of the ring (R52): firing, with a mean steam flow. -/
def usableSlots (ring : List RingSlot) : List (Nat × Nat) :=
  ring.filterMap fun s => if s.firing then s.steam.map fun st => (st, s.mass) else none

/-- Heat in of a usable slot, kW (R52). -/
def heatIn (p : LineParams) (steam : Nat) : Nat := steam * p.hNet / 36 * 1000 / p.eta

/-- A quarter of the way from the old estimate to the raw value, truncated toward zero (R52). -/
def quarterStep (old raw : Nat) : Nat :=
  if old ≤ raw then old + (raw - old) / 4 else old - (old - raw) / 4

/-- The estimator over the ring (R52, R53). -/
def Gfu.estimate (g : Gfu) (p : LineParams) : Gfu :=
  let slots := usableSlots g.ring
  let heat := (slots.map fun s => heatIn p s.1).sum
  let mass := (slots.map Prod.snd).sum
  if slots.length < Config.minUsable then { g with estResult := .few, usable := slots.length }
  else if mass < 3 * p.strokeMass then { g with estResult := .light, usable := slots.length }
  else
    let found := roundHalfUp (heat * 60) mass
    let raw := clamp Config.lhvMin Config.lhvMax found
    { g with lhv := quarterStep g.lhv raw
             estResult := if found < Config.lhvMin then .low
                          else if Config.lhvMax < found then .high else .updated
             usable := slots.length
             lastRaw := some raw }

/-- A minute close at the GFU (R51, R52): the slot, the accumulators emptied, the estimator. -/
def Gfu.minuteClose (g : Gfu) (p : LineParams) (m : MinuteId) (firing : Bool) : Gfu :=
  { g with ring := pushSlot g.ring (g.slot m firing), fedMass := 0, steamSum := 0, steamCount := 0 }.estimate p

namespace Block

/-! ## Deliveries -/

/-- A load target reaches the GFU (R36): discarded outside FIRING. -/
def loadTarget (b : Block) (l : LineId) (target : Nat) : Block :=
  if (b.line l).lsc.state = .firing then
    b.modGfu l fun g => g.takeTarget target ((b.lineParams l).ramp / 10)
  else b

/-- A stroke may start: the line is in FIRING and FEED-STOP is released (R42). -/
def mayStart (b : Block) (l : LineId) : Bool := (b.line l).lsc.state == .firing && !b.feedStop

/-- The mass of a stroke handed to the line's EAU, collected while the clock is RUNNING (R63). -/
def eauMass (b : Block) (l : LineId) (k : Nat) : Block :=
  if b.running then b.modEau l fun e => { e with mass := e.mass + k } else b

/-- A feeder report (R43): a FAULT reply leaves the record unchanged. The mass of a stroke is counted and handed to
the EAU in one command. Where one of the two has put its minute close off and the other has taken it, the stroke falls
in different minutes in the GFU's ring and in the EAU's table (R63, notes/assumptions/49.md). -/
def feederReport (b : Block) (l : LineId) (pos : RamPosition) (status : OkFault) : Block :=
  match status, (b.line l).gfu.phase, pos with
  | .ok, .extending, .extended =>
    let k := (b.lineParams l).strokeMass
    (b.modGfu l fun g =>
      { g with phase := .retracting, fedMass := satAdd Config.max32 g.fedMass k }).eauMass l k
  | .ok, .retracting, .retracted => b.modGfu l fun g => g.complete (b.mayStart l)
  | _, _, _ => b

/-- A steam sample at the GFU (R50). -/
def steamSample (b : Block) (l : LineId) (steam : Nat) (status : OkFault) : Block :=
  match status with
  | .ok => b.modGfu l fun g => g.addSteam steam
  | .fault => b

/-- A minute close at the GFU (R51 to R53). -/
def gfuClose (b : Block) (l : LineId) (m : MinuteId) : Block :=
  b.modGfu l fun g => g.minuteClose (b.lineParams l) m ((b.line l).lsc.state == .firing)

/-! ## The second tick (R40, R42, R45, R46) -/

/-- R45, R46: a stroke in flight whose age is at the stroke timeout times out, with RAM_FAULT; the third
consecutive one is reported to the LSC. -/
def tryStrokeTimeout (b : Block) (l : LineId) : Block :=
  let g := (b.line l).gfu
  if g.phase ≠ .none ∧ (b.lineParams l).strokeTimeout ≤ g.age then
    let b1 := (b.modGfu l Gfu.timeOut).raiseLine .ramFault l (u8 (if g.phase = .extending then 0 else 1))
    if (b1.line l).gfu.faults = 3 then b1.feedFault l false else b1
  else b

/-- R42: what a due stroke does to the stroke record. -/
def strokeIsDue (b : Block) (l : LineId) : Block :=
  let g := (b.line l).gfu
  if g.phase = .none then (if b.mayStart l then b.modGfu l Gfu.startStroke else b)
  else if g.owed then
    (b.modGfu l fun g => { g with dropped := satAdd Config.max16 g.dropped 1 }).raiseLine .feedLag l []
  else b.modGfu l fun g => { g with owed := true }

/-- R40, R42: in FIRING an accumulator at or above 360000 falls by it, and one stroke becomes due. -/
def tryStrokeDue (b : Block) (l : LineId) : Block :=
  if (b.line l).lsc.state = .firing ∧ Config.pacerModulus ≤ (b.line l).gfu.acc then
    (b.modGfu l fun g => { g with acc := g.acc - Config.pacerModulus }).strokeIsDue l
  else b

/-- The pacer's count at a second tick (R39, R40); outside FIRING the accumulator does not change. -/
def pacerCount (b : Block) (l : LineId) : Block :=
  if (b.line l).lsc.state = .firing then
    b.modGfu l fun g =>
      let n := strokeRate (b.lineParams l) g.load g.lhv
      { g with rate := n, acc := g.acc + n }
  else b.modGfu l fun g => { g with rate := 0 }

/-- The age of a stroke in flight at a second tick (R45). -/
def strokeAge (g : Gfu) : Gfu := if g.phase = .none then g else { g with age := satAdd 600 g.age 1 }

/-- The second tick at the GFU of a line: the stroke timeout before the pacer (R40). -/
def gfuTick (b : Block) (l : LineId) : Block :=
  ((((b.modGfu l strokeAge).tryStrokeTimeout l).pacerCount l).tryStrokeDue l)

end Block

/-- STROKE_DUE (R42). -/
def execStrokeDue (l : LineId) (s : State) : Host.Outcome State Fault Refusal :=
  s.onBlock fun b => b.tryStrokeDue l

/-- STROKE_TIMEOUT (R45). -/
def execStrokeTimeout (l : LineId) (s : State) : Host.Outcome State Fault Refusal :=
  s.onBlock fun b => b.tryStrokeTimeout l

end Sys2Proof.Machine
end

