-- ==== Sys2Proof/Machine/Emission.lean ====
section
/-! DEFINITION. The Emission Averaging Unit (chapter 4): analyzer replies and selection (R56 to R61), the
minute (R63 to R68), the half-hour (R69 to R74), the day (R75 to R78) and the tallies (R79, R80). -/

namespace Sys2Proof.Machine
open Sys2Proof

/-! ## Analyzer roles and selection (R56 to R61) -/

/-- Status of one quantity in an analyzer reply (R57), in the order of R165. -/
inductive CellStatus where
  | ok | maint | fault
deriving DecidableEq, Repr

/-- An analyzer reply: a value and a status per quantity (R57). -/
abbrev AnalyzerReply := PerQuantity (Nat × CellStatus)

/-- Available: bound and healthy (R56). -/
def AnalyzerRole.available (r : AnalyzerRole) : Bool := r.bound && r.healthy

/-- Fit: available with O2 fault 0 (R56). -/
def AnalyzerRole.fit (r : AnalyzerRole) : Bool := r.available && !r.o2Fault

/-- The role of a selection; NONE selects no role, so the second argument tells which is meant. -/
def Eau.role (e : Eau) (isA : Bool) : AnalyzerRole := if isA then e.roleA else e.roleB

/-- The record with one role's flags changed. -/
def Eau.modRole (e : Eau) (isA : Bool) (f : AnalyzerRole → AnalyzerRole) : Eau :=
  if isA then { e with roleA := f e.roleA } else { e with roleB := f e.roleB }

/-- The selection that names a role. -/
def selOf (isA : Bool) : Selection := if isA then .a else .b

/-- The selection after the active role is lost or unbound: the other if available, else NONE (R58, R59). -/
def Eau.afterLoss (e : Eau) (isA : Bool) : Selection :=
  if e.active = selOf isA then (if (e.role !isA).available then selOf !isA else .none) else e.active

/-- The selection after an O2 FAULT reply of the active role: the other if fit, else it stays (R58, R59). -/
def Eau.afterO2Fault (e : Eau) (isA : Bool) : Selection :=
  if e.active = selOf isA then (if (e.role !isA).fit then selOf !isA else e.active) else e.active

/-- The selection after a role became available: from NONE, A if available, else B (R60). -/
def Eau.afterAvailable (e : Eau) : Selection :=
  if e.active = .none then
    (if e.roleA.available then .a else if e.roleB.available then .b else .none)
  else e.active

namespace Block

/-- A change of the active analyzer (R61): the counter, ANALYZER_SWITCH, and the ANALYZER cause delivered
to the DAU at a change into or out of NONE. The same selection changes nothing. -/
def select (b : Block) (l : LineId) (new : Selection) : Block :=
  let old := (b.line l).eau.active
  if new = old then b
  else
    let b1 := (b.modEau l fun e =>
      { e with active := new, switches := satAdd Config.max16 e.switches 1 }).raiseLine .analyzerSwitch l
        (u8 new.code)
    if new = .none then b1.setCause l .analyzer true
    else if old = .none then b1.setCause l .analyzer false
    else b1

/-- An analyzer role is bound (R56, R60). -/
def analyzerBound (b : Block) (l : LineId) (isA lost : Bool) : Block :=
  let b1 := b.modEau l fun e => e.modRole isA fun _ => ⟨true, !lost, false⟩
  b1.select l (b1.line l).eau.afterAvailable

/-- An analyzer role is unbound (R56, R58, R59). -/
def analyzerUnbound (b : Block) (l : LineId) (isA : Bool) : Block :=
  let b1 := b.modEau l fun e => e.modRole isA fun _ => ⟨false, false, false⟩
  b1.select l ((b1.line l).eau.afterLoss isA)

/-- The station of an analyzer role becomes LOST (R56, R58, R59). -/
def analyzerLoss (b : Block) (l : LineId) (isA : Bool) : Block :=
  let b1 := b.modEau l fun e => e.modRole isA fun r => { r with healthy := false }
  b1.select l ((b1.line l).eau.afterLoss isA)

/-- The station of an analyzer role returns (R56, R60), before its reply is taken. -/
def analyzerReturn (b : Block) (l : LineId) (isA : Bool) : Block :=
  let b1 := b.modEau l fun e => e.modRole isA fun r => { r with healthy := true }
  b1.select l (b1.line l).eau.afterAvailable

/-- One quantity's sample added to the open minute: only a status OK adds (R57, R63). -/
def addSample (v : Nat × CellStatus) (s : Samples) : Samples :=
  match v.2 with
  | .ok => ⟨s.sum + v.1, s.count + 1⟩
  | .maint | .fault => s

/-- A good analyzer reply (R57): the samples of the active role while RUNNING, then the O2 fault flag,
then the selection. -/
def analyzerReply (b : Block) (l : LineId) (isA : Bool) (r : AnalyzerReply) : Block :=
  let active := (b.line l).eau.active == selOf isA
  let b1 :=
    if active && b.running then
      b.modEau l fun e => { e with samples := .zipWith addSample r e.samples }
    else b
  let fault := r.o2.2 == .fault
  let b2 := b1.modEau l fun e => e.modRole isA fun x => { x with o2Fault := fault }
  if fault then b2.select l ((b2.line l).eau.afterO2Fault isA) else b2

/-- R59: at a minute close with B active, A becomes active if it is fit. -/
def returnToA (b : Block) (l : LineId) : Block :=
  let e := (b.line l).eau
  if e.active = .b ∧ e.roleA.fit = true then b.select l .a else b

end Block

/-! ## The minute (R64 to R67) -/

/-- The raw minute value: valid from 9 samples (R64). -/
def rawValue (s : Samples) : Option Nat :=
  if Config.minSamples ≤ s.count then some (roundHalfUp s.sum s.count) else none

/-- The status of a pollutant's minute, the first in the order of R65 whose condition holds. -/
def minuteStatus (counted cut wet : Bool) (o2 h2o raw : Option Nat) : MinuteStatus :=
  if !counted then .excluded
  else if cut then .clock
  else
    match o2 with
    | none => .noO2
    | some o =>
      if Config.maxO2 < o then .dilute
      else if wet && h2o.isNone then .noH2O
      else if wet && decide (Config.maxH2O < h2o.getD 0) then .moist
      else if raw.isNone then .noData
      else .valid

/-- The normalized value before the bound of 65535 (R66). -/
def normalized (wet : Bool) (c h o ref : Nat) : Nat :=
  if wet then
    (if ref < o then roundHalfUp (c * 1000 * (210 - ref)) ((1000 - h) * (210 - o))
     else roundHalfUp (c * 1000) (1000 - h))
  else (if ref < o then roundHalfUp (c * (210 - ref)) (210 - o) else c)

/-- A pollutant's minute (R65, R66): `cn` present exactly when VALID, stored as 65535 with OVER above it. -/
def polMinute (counted cut wet : Bool) (o2 h2o raw : Option Nat) (ref : Nat) : PolMinute :=
  let st := minuteStatus counted cut wet o2 h2o raw
  if st = .valid then
    let n := normalized wet (raw.getD 0) (h2o.getD 0) (o2.getD 0) ref
    ⟨st, some (min Config.max16 n), decide (Config.max16 < n)⟩
  else ⟨st, none, false⟩

/-- A slot of the table written (R67). -/
def writeSlot (table : List (Option MinuteSlot)) (k : Nat) (s : MinuteSlot) : List (Option MinuteSlot) :=
  table.set k (some s)

/-- A counted slot: line state FIRING or HOLD (R65, R69). -/
def MinuteSlot.counted (s : MinuteSlot) : Bool := s.lineState == .firing || s.lineState == .hold

/-- The written slots. -/
def writtenSlots (table : List (Option MinuteSlot)) : List MinuteSlot := table.filterMap id

/-- The counted minutes of the table (R69). -/
def countedSlots (table : List (Option MinuteSlot)) : List MinuteSlot :=
  (writtenSlots table).filter MinuteSlot.counted

/-- The Cn of the slots VALID for a pollutant (R68, R70). -/
def validCns (table : List (Option MinuteSlot)) (x : Pollutant) : List Nat :=
  (writtenSlots table).filterMap fun s => (s.pol.get x).cn

/-- A mean of at least one value, round-half-up; absent of none. -/
def meanOf (vs : List Nat) : Option Nat := if vs = [] then none else some (roundHalfUp vs.sum vs.length)

/-- The running mean of a pollutant over the open half-hour (R68). -/
def runningMean (table : List (Option MinuteSlot)) (x : Pollutant) : RunningMean :=
  ⟨(validCns table x).length, meanOf (validCns table x)⟩

namespace Block

/-- A pollutant's basis is WET (R55). -/
def wet (b : Block) (x : Pollutant) : Bool := (b.cmc.params.quantity.get x).basis == 1

/-- The raw values of the open minute, by pollutant. -/
def rawPol (b : Block) (l : LineId) (x : Pollutant) : Option Nat :=
  rawValue ((b.line l).eau.samples.pol.get x)

/-- The pollutants' minutes at a close (R65, R66). -/
def polMinutes (b : Block) (l : LineId) (cut : Bool) : PerPollutant PolMinute :=
  let e := (b.line l).eau
  .tabulate fun x =>
    polMinute (b.inService l) cut (b.wet x) (rawValue e.samples.o2) (rawValue e.samples.h2o)
      (b.rawPol l x) b.cmc.params.plant.refO2

/-- The slot a minute close writes (R67). -/
def minuteSlot (b : Block) (l : LineId) (cut : Bool) : MinuteSlot :=
  let e := (b.line l).eau
  { lineState := (b.line l).lsc.state
    pol := b.polMinutes l cut
    o2 := rawValue e.samples.o2
    h2o := rawValue e.samples.h2o
    mass := e.mass
    deviation := b.inService l && (b.line l).dau.episode.isSome
    cut := cut }

/-- The hand-over of a minute (R68), read off the table after its slot was written. -/
def handOver (b : Block) (l : LineId) (m : MinuteId) (slot : MinuteSlot) : HandOver :=
  ⟨m, slot.pol.so2, slot.pol.hcl, .tabulate fun x => runningMean (b.line l).eau.table x⟩

/-- A minute close at the EAU (R63 to R68, R59): the slot, the accumulators emptied, the hand-over to the
CCU, then the return to A. -/
def eauMinute (b : Block) (l : LineId) (m : MinuteId) (cut : Bool) : Block :=
  let slot := b.minuteSlot l cut
  let b1 := b.modEau l fun e =>
    { e with table := writeSlot e.table (m.minute % 30) slot
             last := some ⟨slot.pol, slot.o2, slot.h2o⟩
             samples := .const ⟨0, 0⟩
             mass := 0 }
  (b1.ccuHandOver l (b1.handOver l m slot)).returnToA l

end Block

/-! ## The half-hour (R69 to R73) -/

/-- A pollutant's entry of a half-hour with `counted` counted minutes, before EXCEEDED (R70). -/
def halfHourPol (table : List (Option MinuteSlot)) (counted : Nat) (x : Pollutant) : HalfHourQuantity :=
  let cns := validCns table x
  { average := meanOf cns
    minutes := cns.length
    valid := decide (Config.minMinutes ≤ counted) && decide (Config.minMinutes ≤ cns.length)
    partials := decide (counted < Config.minMinutes) && (meanOf cns).isSome
    overRange := (writtenSlots table).any fun s => (s.pol.get x).status == .valid && (s.pol.get x).overRange
    exceeded := false }

/-- An auxiliary's entry of a half-hour, from its raw values over the counted slots (R71). -/
def halfHourAux (counted : Nat) (raws : List Nat) : HalfHourQuantity :=
  { average := meanOf raws
    minutes := raws.length
    valid := decide (Config.minMinutes ≤ counted) && decide (Config.minMinutes ≤ raws.length)
    partials := decide (counted < Config.minMinutes) && (meanOf raws).isSome
    overRange := false
    exceeded := false }

/-- EXCEEDED: a valid average above the HH limit (R72). -/
def HalfHourQuantity.judge (q : HalfHourQuantity) (limit : Nat) : HalfHourQuantity :=
  { q with exceeded := q.valid && decide (limit < q.average.getD 0) }

/-- The day accumulator after a complete half-hour (R75). -/
def DayAcc.addComplete (d : DayAcc) (q : PerPollutant HalfHourQuantity) : DayAcc :=
  { complete := satAdd Config.max8 d.complete 1
    partials := d.partials
    pol := .tabulate fun x =>
      let a := d.pol.get x
      if (q.get x).valid then ⟨a.sum + (q.get x).average.getD 0, satAdd Config.max8 a.valid 1, a.invalid⟩
      else ⟨a.sum, a.valid, satAdd Config.max8 a.invalid 1⟩ }

namespace Block

/-- An exceedance of a pollutant (R72, R76): EXCEEDANCE and the annual tally (R79). -/
def exceed (b : Block) (l : LineId) (x : Pollutant) (detail : List Byte) : Block :=
  (b.raiseLine .exceedance l (u8 x.index ++ detail)).modEau l fun e =>
    { e with tallies := e.tallies.set x (satAdd Config.max16 (e.tallies.get x) 1) }

/-- The exceedances of a half-hour, in index order (R72). -/
def exceedHalfHour (b : Block) (l : LineId) (index : Nat) (q : PerPollutant HalfHourQuantity) : Block :=
  allPollutants.foldl (fun b x => if (q.get x).exceeded then b.exceed l x (u8 0 ++ u8 index) else b) b

/-- The pollutants' entries of a half-hour (R70, R72). -/
def halfHourPols (b : Block) (l : LineId) (counted : Nat) : PerPollutant HalfHourQuantity :=
  .tabulate fun x => (halfHourPol (b.line l).eau.table counted x).judge (b.hhLimits.get x)

/-- The HALF_HOUR record (R73), from the pollutants' entries. -/
def halfHourRecord (b : Block) (l : LineId) (year day index : Nat) (cut : Bool)
    (q : PerPollutant HalfHourQuantity) : HalfHourRecord :=
  let slots := countedSlots (b.line l).eau.table
  { year := year
    day := day
    index := index
    counted := slots.length
    deviation := (slots.filter MinuteSlot.deviation).length
    allowanceUsed := (b.line l).dau.used
    mass := min Config.max16 (slots.map MinuteSlot.mass).sum
    complete := decide (Config.minMinutes ≤ slots.length)
    cut := cut
    quantities :=
      ⟨q, halfHourAux slots.length (slots.filterMap MinuteSlot.o2),
        halfHourAux slots.length (slots.filterMap MinuteSlot.h2o)⟩ }

/-- A half-hour close at the EAU (R69 to R75): empty, partial or complete; then the table is cleared. -/
def eauHalfHour (b : Block) (l : LineId) (year day index : Nat) (cut : Bool) : Block :=
  let counted := (countedSlots (b.line l).eau.table).length
  let clear (b : Block) : Block := b.modEau l fun e => { e with table := emptyTable }
  if counted = 0 then clear b
  else
    let q := b.halfHourPols l counted
    let rec? := b.halfHourRecord l year day index cut q
    let b1 := b.exceedHalfHour l index q
    let b2 := b1.modEau l fun e =>
      { e with day := if Config.minMinutes ≤ counted then e.day.addComplete q
                      else { e.day with partials := satAdd Config.max8 e.day.partials 1 } }
    clear (b2.enterRecord l (.halfHour rec?))

/-! ## The day (R76 to R79) -/

/-- A pollutant's entry of the day (R76). -/
def dayPol (d : DayPol) (limit : Nat) : DayQuantity :=
  let avg := if d.valid = 0 then none else some (roundHalfUp d.sum d.valid)
  { average := avg
    valid := d.valid
    invalid := d.invalid
    deficient := decide (Config.maxInvalidHalfHours < d.invalid)
    exceeded := decide (limit < avg.getD 0) }

/-- A pollutant's notices and tally at a day close (R76): DAY_DEFICIENT, then EXCEEDANCE. -/
def dayNotices (l : LineId) (q : PerPollutant DayQuantity) (b : Block) (x : Pollutant) : Block :=
  let b1 := if (q.get x).deficient then b.raiseLine .dayDeficient l (u8 x.index) else b
  if (q.get x).exceeded then b1.exceed l x (u8 1) else b1

/-- A day close at the EAU (R76, R77, R79): the averages, the DAY record where a half-hour was complete,
the accumulator emptied, and at the year rollover the tallies set to 0. -/
def eauDay (b : Block) (l : LineId) (year day : Nat) (rollover cut : Bool) : Block :=
  let acc := (b.line l).eau.day
  let q : PerPollutant DayQuantity :=
    .tabulate fun x => dayPol (acc.pol.get x) (b.cmc.params.quantity.get x).dailyLimit
  let b1 := allPollutants.foldl (dayNotices l q) b
  let b2 :=
    if 1 ≤ acc.complete then
      b1.enterRecord l (.day ⟨year, day, acc.complete, acc.partials, cut, q⟩)
    else b1
  b2.modEau l fun e =>
    { e with day := .empty, tallies := if rollover then .const 0 else e.tallies }

/-- A close at the EAU (R26); a year change leaves its tallies (R80). -/
def eauClose (b : Block) (l : LineId) : Close → Block
  | .minute m cut => b.eauMinute l m cut
  | .halfHour y d i cut => b.eauHalfHour l y d i cut
  | .day y d r cut => b.eauDay l y d r cut
  | .yearChange _ _ => b

end Block

end Sys2Proof.Machine
end

