-- ==== Sys2Proof/Machine/Allowance.lean ====
section
/-! DEFINITION. The DAU's minute count and limits (R105 to R108), the year (R111, R112), and the allowance
test of R101. -/

namespace Sys2Proof.Machine
open Sys2Proof
namespace Block

/-- The line's allowance is restored for the current year (R101). -/
def allowanceRestored (b : Block) (l : LineId) : Bool :=
  let d := (b.line l).dau
  match b.clock.time with
  | some t => d.restored && d.restoredYear == some t.year
  | none => false

/-- What the counting of a minute finds (R106, R107): the episode at its limit, used just at 3600. -/
structure LimitFound where
  episode   : Bool
  low       : Bool
  allowance : Bool
deriving DecidableEq, Repr

/-- The limit reached field that limits found set (R106, R107). -/
def LimitFound.field (f : LimitFound) (old : LimitReached) : LimitReached :=
  if f.episode && f.allowance then .both
  else if f.allowance then .allowance
  else if f.episode then .episodeLimit
  else old

/-- The notices of the limits found, in order (R106, R107). -/
def limitNotices (b : Block) (l : LineId) (f : LimitFound) (minutes used : Nat) : Block :=
  let b1 := if f.episode then b.raiseLine .episodeLimit l (u8 minutes) else b
  let b2 := if f.low then b1.raiseLine .allowanceLow l (u16 used) else b1
  if f.allowance then b2.raiseLine .allowanceExhausted l (u8 minutes) else b2

/-- The rundown that limits found deliver to the LSC: one, with cause ALLOWANCE where both are (R107). -/
def LimitFound.rundown (f : LimitFound) : Option RundownCause :=
  if f.allowance then some .allowance
  else if f.episode then some .episodeLimit
  else none

/-- The limits a counted minute finds, with the figures after the count (R106, R107). -/
def limitsFound (b : Block) (l : LineId) (minutes usedBefore used : Nat) : LimitFound :=
  { episode := decide ((b.lineParams l).episodeLimit ≤ minutes)
    low := decide (usedBefore < Config.allowanceLow) && used == Config.allowanceLow
    allowance := decide (usedBefore < Config.allowance) && used == Config.allowance }

/-- A minute counted against an open episode (R105): the figures after the count, and the limits they meet. -/
structure CountedMinute where
  episode : Episode
  minutes : Nat
  used    : Nat
  found   : LimitFound
deriving DecidableEq, Repr

/-- The minute a close counts (R105): one with an episode open and the line in FIRING or HOLD. -/
def countedMinute (b : Block) (l : LineId) : Option CountedMinute :=
  match (b.line l).dau.episode with
  | none => none
  | some e =>
    if b.inService l then
      let before := (b.line l).dau.used
      let used := max before (min Config.allowance (before + 1))
      some ⟨e, e.minutes + 1, used, b.limitsFound l (e.minutes + 1) before used⟩
    else none

/-- A minute close at the DAU (R105 to R107): the minute counted, the limits it meets set and announced. The
rundown they bring is delivered to the LSC, which takes it after this read of the line state (R108). -/
def dauMinute (b : Block) (l : LineId) : Block :=
  match b.countedMinute l with
  | none => b
  | some m =>
    (b.modDau l fun d =>
      { d with used := m.used
               episode := some { m.episode with minutes := m.minutes, limit := m.found.field m.episode.limit }
      }).limitNotices l m.found m.minutes m.used

/-- The rundown a close at the DAU delivers to the LSC (R106, R107). -/
def dauRundown (b : Block) (l : LineId) : Close → Option RundownCause
  | .minute _ _ => (b.countedMinute l).bind fun m => m.found.rundown
  | .halfHour _ _ _ _ | .day _ _ _ _ | .yearChange _ _ => none

/-- The year rollover at the DAU (R111): used becomes 0 and a restored year becomes the new year. -/
def dauRollover (b : Block) (l : LineId) (newYear : Nat) : Block :=
  b.modDau l fun d =>
    { d with used := 0, restoredYear := if d.restored then some newYear else d.restoredYear }

/-- A close at the DAU (R26): a day close that is not the rollover changes nothing (R111); a year change
sets restored to 0 (R112). -/
def dauClose (b : Block) (l : LineId) : Close → Block
  | .minute _ _ => b.dauMinute l
  | .halfHour _ _ _ _ => b
  | .day year _ rollover _ => if rollover then b.dauRollover l (year + 1) else b
  | .yearChange _ _ => b.modDau l fun d => { d with restored := false }

end Block

end Sys2Proof.Machine
end

