-- ==== Sys2Proof/Machine/Turbines.lean ====
section
/-! DEFINITION. The Turbine Dispatch Unit (chapter 8) outside the balance cycle: the turbine station (R145),
the second tick in RUNUP (R147), trips (R150, R151) with the fast bypass transfer (R133), and the speed
measurement (R154 to R157). -/

namespace Sys2Proof.Machine
open Sys2Proof

/-! ## The station copy (R145) -/

/-- A reply in the station copy: a FAULT makes the breaker UNKNOWN. -/
def StationCopy.take (c : StationCopy) (valve : Nat) (breaker : Breaker) (status : OkFault) : StationCopy :=
  { c with valve := some valve, breaker := if status = .ok then breaker else .unknown, status := some status }

namespace Block

/-- A turbine role is bound (R145). -/
def turbineBound (b : Block) (t : TurbineId) (lost : Bool) : Block :=
  b.modTurbine t fun x =>
    { x with station := { x.station with bound := true, healthy := !lost, valve := none, breaker := .unknown } }

/-- A turbine role is unbound (R145). -/
def turbineUnbound (b : Block) (t : TurbineId) : Block :=
  b.modTurbine t fun x =>
    { x with station := { x.station with bound := false, healthy := false, valve := none, breaker := .unknown } }

/-- The turbine's station becomes LOST (R145): in ONLINE frozen becomes 1. -/
def turbineLoss (b : Block) (t : TurbineId) : Block :=
  b.modTurbine t fun x =>
    { x with station := { x.station with healthy := false, breaker := .unknown }
             frozen := if x.state = .online then true else x.frozen }

/-- A good reply of the turbine's station (R145), which where it returns a LOST one ends frozen. -/
def turbineReply (b : Block) (t : TurbineId) (valve : Nat) (breaker : Breaker) (status : OkFault)
    (returned : Bool) : Block :=
  b.modTurbine t fun x =>
    { x with station := { x.station with healthy := x.station.healthy || returned }.take valve breaker status
             frozen := x.frozen && !returned }

/-! ## The second tick in RUNUP (R147) -/

end Block

/-- The speed is VALID and its rpm in the runup band, from 99 % to 101 % of rated, bounds included (R147). -/
def inBand (s : Speed) (rated : Nat) : Bool :=
  s.status == .valid && decide (rated * 99 ≤ s.rpm * 100) && decide (s.rpm * 100 ≤ rated * 101)

/-- The qualification count at a second tick (R147, step 1). -/
def Turbine.qualify (x : Turbine) (rated : Nat) : Turbine :=
  { x with qual := if inBand x.speed rated then satAdd 10 x.qual 1 else 0 }

namespace Block

/-- R147, step 2: a count of 10 with the breaker CLOSED takes RUNUP to ONLINE. -/
def tryOnline (b : Block) (t : TurbineId) : Block :=
  let x := b.turbine t
  if x.state = .runup ∧ x.qual = 10 ∧ x.station.breaker = .closed then
    b.modTurbine t fun x => { x with state := .online, runup := 0, qual := 0 }
  else b

/-- R147, step 3: a runup timer at the runup timeout takes RUNUP to OFFLINE, with RUNUP_TIMEOUT. The timer and
the qualification count keep their last values there: DEDUCED (notes/assumptions/43.md). -/
def tryRunupTimeout (b : Block) (t : TurbineId) : Block :=
  let x := b.turbine t
  if x.state = .runup ∧ (b.turbineParams t).runupTimeout ≤ x.runup then
    (b.modTurbine t fun x => { x with state := .offline, setpoint := 0 }).raise .runupTimeout
      (turbineNumber t) (u8 x.speed.status.code ++ u16 x.speed.rpm)
  else b

/-- The second tick at a turbine (R147): only RUNUP acts on it. -/
def turbineTick (b : Block) (t : TurbineId) : Block :=
  if (b.turbine t).state = .runup then
    let b1 := (b.modTurbine t fun x => x.qualify (b.turbineParams t).ratedSpeed).tryOnline t
    if (b1.turbine t).state = .runup then
      (b1.modTurbine t fun x => { x with runup := x.runup + 1 }).tryRunupTimeout t
    else b1
  else b

/-! ## Trips (R150, R151, R133) -/

/-- The fast bypass transfer (R133): the setpoint rises by the tripped turbine's, to at most the maximum. -/
def fastTransfer (b : Block) (steam : Nat) : Block :=
  b.modBlu fun x => { x with setpoint := min (x.setpoint + steam) b.cmc.params.plant.bypassMax }

/-- States in which a trip acts (R150, R157). -/
def TurbineState.trippable : TurbineState → Bool
  | .runup | .online | .unloading => true
  | .offline | .tripped => false

/-- A trip (R151) of a turbine in RUNUP, ONLINE or UNLOADING; in OFFLINE and TRIPPED it changes nothing. -/
def trip (b : Block) (t : TurbineId) (cause : TripCause) : Block :=
  let x := b.turbine t
  if TurbineState.trippable x.state then
    ((b.fastTransfer x.setpoint).modTurbine t fun x =>
      { x with state := .tripped, setpoint := 0, runup := 0, qual := 0, frozen := false
               lastTrip := some ⟨cause, x.state, b.now⟩
               trips := satAdd Config.max16 x.trips 1 }).raise .turbineTrip (turbineNumber t)
        (u8 cause.code ++ u8 x.state.code)
  else b

/-- A trip input assertion taken (R150). -/
def tripAsserted (b : Block) (t : TurbineId) : Block :=
  (b.modTurbine t fun x => { x with tripInput := true }).trip t .input

/-- A trip input's release taken (R150): the level alone changes. -/
def tripReleased (b : Block) (t : TurbineId) : Block := b.modTurbine t fun x => { x with tripInput := false }

end Block

/-! ## Speed measurement (R154 to R157) -/

/-- Reference cycles per second of a range (R154). -/
def SpeedRange.hertz : SpeedRange → Nat
  | .fast => 1000000
  | .slow => 62500

/-- The speed of a period (R155); a count of 0 has no quotient, and its speed is a free value. -/
def periodSpeed (range : SpeedRange) (c teeth : Nat) : Nat :=
  if c = 0 then Config.speedAtZeroCount range.hertz teeth else 60 * range.hertz / (c * teeth)

/-- The rpm stored for a period's speed: itself in its range, else a free value of the range (R154). -/
def storedRpm (speed : Nat) : Nat :=
  if speed ≤ Config.max16 then speed else (Config.rpmPastRange speed).toNat

/-- A period completes with count `c`, and a new one starts at the same edge (R155, R157). A first period in
FAST follows a change from SLOW, and the status stays as the last SLOW period left it (step 4) where step 2
alone would make it MEASURING: DEDUCED (notes/assumptions/42.md). -/
def Speed.completePeriod (s : Speed) (c teeth overspeed : Nat) : Speed :=
  let v := periodSpeed s.range c teeth
  let periods := satAdd 2 s.periods 1
  let toFast := s.range == .slow && decide (c < 4096)
  { range := if toFast then .fast else s.range
    timing := true
    count := 0
    periods := if toFast then 0 else periods
    status := if periods = 2 then .valid else if s.range = .fast then s.status else .measuring
    rpm := if periods = 2 then storedRpm v else s.rpm
    overCount := if overspeed < v then satAdd 2 s.overCount 1 else 0 }

/-- The count overflows (R156). -/
def Speed.overflow (s : Speed) : Speed :=
  match s.range with
  | .fast => { s with range := .slow, timing := false, count := Config.max16, periods := 0, overCount := 0
                      status := .measuring }
  | .slow => { s with timing := false, count := Config.max16, periods := 0, overCount := 0
                      status := .stopped, rpm := 0 }

/-- A rising edge with timing 0 starts a period (R155). -/
def Speed.start (s : Speed) : Speed := { s with timing := true, count := 0 }

namespace Block

/-- A rising edge after `cycles` further reference cycles (R155 to R157). A count that has passed 65535
overflowed first (R156). A completed period that leaves the over count at 2 is an overspeed event. -/
def risingEdge (b : Block) (t : TurbineId) (cycles : Nat) : Block :=
  let s := (b.turbine t).speed
  let c := s.count + cycles
  if s.timing then
    if c ≤ Config.max16 then
      let p := b.turbineParams t
      let s1 := s.completePeriod c p.teeth p.overspeed
      let b1 := b.modTurbine t fun x => { x with speed := s1 }
      if s1.overCount = 2 then b1.trip t .overspeed else b1
    else b.modTurbine t fun x => { x with speed := s.overflow.start }
  else b.modTurbine t fun x => { x with speed := s.start }

/-- A speed count overflow (R156): the count runs only while a period is timed. -/
def speedOverflow (b : Block) (t : TurbineId) : Block :=
  b.modTurbine t fun x => { x with speed := if x.speed.timing then x.speed.overflow else x.speed }

end Block

/-! ## Commands -/

/-- RUNUP_QUALIFIED (R147). -/
def execRunupQualified (t : TurbineId) (s : State) : Host.Outcome State Fault Refusal :=
  s.onBlock fun b => b.tryOnline t

/-- RUNUP_TIMEOUT (R147). -/
def execRunupTimeout (t : TurbineId) (s : State) : Host.Outcome State Fault Refusal :=
  s.onBlock fun b => b.tryRunupTimeout t

/-- TRIP_ASSERT (R150): a level already asserted makes no change of level. -/
def execTripAssert (t : TurbineId) (s : State) : Host.Outcome State Fault Refusal :=
  s.onBlock fun b => if (b.turbine t).tripInput then b else b.tripAsserted t

/-- TRIP_RELEASE (R150). -/
def execTripRelease (t : TurbineId) (s : State) : Host.Outcome State Fault Refusal :=
  s.onBlock fun b => b.tripReleased t

/-- SPD_RISING_EDGE (R155). -/
def execSpdRisingEdge (t : TurbineId) (cycles : Nat) (s : State) : Host.Outcome State Fault Refusal :=
  s.onBlock fun b => b.risingEdge t cycles

/-- SPEED_COUNT_OVERFLOW (R156). -/
def execSpeedCountOverflow (t : TurbineId) (s : State) : Host.Outcome State Fault Refusal :=
  s.onBlock fun b => b.speedOverflow t

end Sys2Proof.Machine
end

