-- ==== Sys2Proof/Machine/Dispatching.lean ====
section
/-! DEFINITION. The TDU's part of the balance cycle (chapter 8): the dispatch queue applied (R140), the
commitment converted (R141, R142), and the setpoints moved at step 7 (R149). -/

namespace Sys2Proof.Machine
open Sys2Proof

/-! ## The dispatch queue (R137 to R140) -/

/-- An entry's time is at or before now (R140): year, day and minute-of-day. -/
def SchedEntry.due (e : SchedEntry) (t : Time) : Bool := !(EffTime.before ⟨t.year, t.day, t.minuteOfDay⟩ e.time)

/-- The entries that have fallen due and those that have not, in queue order. -/
def splitDue (q : List SchedEntry) (t : Time) : List SchedEntry × List SchedEntry :=
  (q.filter fun e => e.due t, q.filter fun e => !e.due t)

/-- The commitment after `due` entries left the queue: the latest one's, the others superseded (R140). -/
def Commitment.apply (c : Commitment) (due : List SchedEntry) (stamp : Stamp) : Commitment :=
  match due.getLast? with
  | none => c
  | some e => ⟨e.p, e.h, some e.time, some stamp, satAdd Config.max16 c.superseded (due.length - 1)⟩

/-! ## Conversion (R121, R141, R142) -/

/-- The mark of a turbine (R121). -/
def Turbine.markNow (x : Turbine) : Mark :=
  match x.state with
  | .runup => .warming
  | .online => if x.frozen then .frozen else .free
  | .offline | .unloading | .tripped => .zero

/-- A target with what it serves: the target, the power served of the need, and its part of the
electrical target (T2 only). -/
structure Conversion where
  target : Nat
  served : Nat
  power  : Nat
deriving DecidableEq, Repr

/-- T2's conversion of the heat target (R141). -/
def convertHeat (p : TurbineParams) (mark : Mark) (setpoint h : Nat) : Conversion :=
  match mark with
  | .free =>
    let raw := p.s0 + h * p.sigmaH / 100
    let target := min raw p.sMax
    ⟨target, if raw ≤ p.sMax then h else (p.sMax - p.s0) * 100 / p.sigmaH, (target - p.s0) * 100 / p.sigma⟩
  | .frozen =>
    let e := setpoint - p.s0
    ⟨setpoint, min h (e * 100 / p.sigmaH), e * 100 / p.sigma⟩
  | .warming => ⟨min p.sWarm p.sMax, 0, 0⟩
  | .zero => ⟨0, 0, 0⟩

/-- T1's conversion of the electrical need (R142). -/
def convertPower (p : TurbineParams) (mark : Mark) (setpoint need : Nat) : Conversion :=
  match mark with
  | .free =>
    let raw := p.s0 + need * p.sigma / 100
    ⟨min raw p.sMax, if raw ≤ p.sMax then need else (p.sMax - p.s0) * 100 / p.sigma, 0⟩
  | .frozen => ⟨setpoint, min need ((setpoint - p.s0) * 100 / p.sigma), 0⟩
  | .warming => ⟨min p.sWarm p.sMax, 0, 0⟩
  | .zero => ⟨0, 0, 0⟩

/-- A turbine's setpoint at step 7 (R149), and OFFLINE for an UNLOADING turbine left at 0. -/
def Turbine.step7 (x : Turbine) (target step : Nat) : Turbine :=
  let sp :=
    match x.state with
    | .runup | .unloading => moveToward x.setpoint target step
    | .online => if x.frozen then x.setpoint else moveToward x.setpoint target step
    | .offline | .tripped => 0
  { x with setpoint := sp
           targetAfter := target
           state := if x.state = .unloading ∧ sp = 0 then .offline else x.state }

namespace Block

/-- R140: entries fallen due leave the queue, and the latest becomes the commitment, while RUNNING. -/
def applyQueue (b : Block) : Block :=
  match b.clock.time with
  | none => b
  | some t =>
    b.modTdu fun x =>
      { x with queue := (splitDue x.queue t).2
               commitment := x.commitment.apply (splitDue x.queue t).1 b.now }

/-- R141, R142: the commitment converted into targets, marks and conversion shortfalls. -/
def convert (b : Block) : Block :=
  let x1 := b.turbine .t1
  let x2 := b.turbine .t2
  let c := b.tdu.commitment
  let c2 := convertHeat (b.turbineParams .t2) x2.markNow x2.setpoint c.h
  let need := c.p - c2.power
  let c1 := convertPower (b.turbineParams .t1) x1.markNow x1.setpoint need
  b.modTdu fun x =>
    { x with elConv := need - c1.served
             heatConv := c.h - c2.served
             turbines :=
               ⟨{ x1 with mark := x1.markNow, targetBefore := c1.target },
                { x2 with mark := x2.markNow, targetBefore := c2.target }⟩ }

/-- R149: both setpoints moved toward the targets after the cut. -/
def moveSetpoints (b : Block) (target1 target2 : Nat) : Block :=
  (b.modTurbine .t1 fun x => x.step7 target1 ((b.turbineParams .t1).ramp / 10)).modTurbine .t2 fun x =>
    x.step7 target2 ((b.turbineParams .t2).ramp / 10)

end Block

end Sys2Proof.Machine
end

