-- ==== Sys2Proof/Machine/Balance.lean ====
section
/-! DEFINITION. The Balance Unit (chapter 7): the inputs held between cycles (R117, R118), the balance
cycle (R120 to R131), and the bypass maximum's write (R131). -/

namespace Sys2Proof.Machine
open Sys2Proof
namespace Block

/-! ## Inputs held between cycles (R117, R118) -/

/-- An OK reply's steam flow stored; a FAULT leaves the stored value; a return clears the stale mark (R117). -/
def bluSteam (b : Block) (l : LineId) (steam : Nat) (status : OkFault) (returned : Bool) : Block :=
  b.modCopy l fun c =>
    { c with steam := if status = .ok then some steam else c.steam, stale := c.stale && !returned }

/-- Loss of the FURNACE station marks the stored value stale (R117); the mark is set also where no value is stored,
which R117 does not say: DESIGN CHOICE (notes/assumptions/53.md). -/
def bluStale (b : Block) (l : LineId) : Block := b.modCopy l fun c => { c with stale := true }

/-- Unbinding the FURNACE role makes the value absent (R117); the mark goes with it. -/
def bluUnbound (b : Block) (l : LineId) : Block := b.modCopy l fun c => { c with steam := none, stale := false }

/-- A header reply (R118). -/
def headerReply (b : Block) (pressure : Nat) (status : OkFault) : Block :=
  b.modBlu fun x => { x with pressure := if status = .ok then some pressure else none }

/-- Loss or unbinding of the HEADER station (R118). -/
def headerGone (b : Block) : Block := b.modBlu fun x => { x with pressure := none }

/-- A bypass reply (R118). -/
def bypassReply (b : Block) (flow : Nat) (status : OkFault) : Block :=
  b.modBlu fun x => { x with flow := if status = .ok then some flow else none }

/-- Loss or unbinding of the BYPASS station (R118). -/
def bypassGone (b : Block) : Block := b.modBlu fun x => { x with flow := none }

/-- PARAM SET wrote the bypass maximum (R131): a setpoint above it is lowered to it at the write. -/
def bypassMaxWritten (b : Block) : Block :=
  b.modBlu fun x => { x with setpoint := min x.setpoint b.cmc.params.plant.bypassMax }

end Block

/-! ## Trim (R122) -/

/-- The trim of an error (R122): truncated toward zero, then clamped to the trim limit. -/
def trimOfError (e : Int) (p : PlantParams) : Int :=
  let d : Int := p.deadBand
  let t : Int :=
    if d < e then ((e - d) * p.kP).tdiv 100
    else if e < -d then ((e + d) * p.kP).tdiv 100
    else 0
  max (-(p.tMax : Int)) (min t p.tMax)

/-- The trim of a cycle (R122): 0 without a header pressure or a firing line. -/
def trimNow (pressure : Option Nat) (anyFiring : Bool) (p : PlantParams) : Int :=
  match pressure with
  | none => 0
  | some x => if anyFiring then trimOfError ((p.pSet : Int) - x) p else 0

/-! ## Bounds, cut and allocation (R123 to R128) -/

/-- A firing line as the cycle sees it: its bounds, weight and rated steam. -/
structure FiringLine where
  line   : LineId
  lo     : Nat
  hi     : Nat
  weight : Nat
  rated  : Nat
deriving DecidableEq, Repr

/-- The headroom of a line (R124). -/
def FiringLine.headroom (f : FiringLine) : Nat := f.hi - f.lo

/-- The bounds of a line (R124). -/
def boundsOf (l : LineId) (c : Nat) (p : LineParams) : FiringLine :=
  ⟨l, min p.minLoad c * p.ratedSteam / 1000, c * p.ratedSteam / 1000, p.weight, p.ratedSteam⟩

/-- A cut floor (R121). -/
def cutFloor (mark : Mark) (s0 target : Nat) : Nat :=
  match mark with
  | .free => s0
  | .warming | .zero => 0
  | .frozen => target

/-- The cuts of a cycle (R125): T1's, T2's and the residual deficit. -/
structure Cuts where
  cut1     : Nat
  cut2     : Nat
  residual : Nat
deriving DecidableEq, Repr

/-- The availability cut (R125): nothing for a deficit of 0 or less; else T1 to its floor, then T2. -/
def cutsOf (deficit : Int) (target1 floor1 target2 floor2 : Nat) : Cuts :=
  let d := deficit.toNat
  let c1 := min d (target1 - floor1)
  let c2 := min (d - c1) (target2 - floor2)
  ⟨c1, c2, d - c1 - c2⟩

/-- A line with what it has received of the extra. -/
abbrev Share := LineId × Nat

/-- A line's share of the extra X in a round (R128, step 1). -/
def shareOf (x totalWeight : Nat) (f : FiringLine) : Nat := x * f.weight / totalWeight

/-- The leftover given 1 unit each in line-number order (R128, step 3). -/
def giveLeftover : Nat → List Share → List Share
  | _, [] => []
  | 0, ss => ss
  | n + 1, (l, a) :: ss => (l, a + 1) :: giveLeftover n ss

/-- The rounds of R128 among the remaining lines; each round but the last has a line leave, so as many
rounds as lines, and one, suffice. -/
def shareRounds : Nat → Nat → List FiringLine → List Share
  | 0, _, _ => []
  | _ + 1, _, [] => []
  | n + 1, x, f :: fs =>
    let remaining := f :: fs
    let w := (remaining.map FiringLine.weight).sum
    let leaves (g : FiringLine) : Bool := decide (g.headroom ≤ shareOf x w g)
    let left := remaining.filter leaves
    if left = [] then
      let shares := remaining.map fun g => (g.line, shareOf x w g)
      giveLeftover (x - (shares.map Prod.snd).sum) shares
    else
      (left.map fun g => (g.line, g.headroom)) ++
        shareRounds n (x - (left.map FiringLine.headroom).sum) (remaining.filter fun g => !leaves g)

/-- What a line received of the extra. -/
def received (ss : List Share) (l : LineId) : Nat := ((ss.find? fun s => s.1 == l).map Prod.snd).getD 0

/-- The allocation of a firing line for the steam Q placed on the lines (R127). -/
def allocate (lines : List FiringLine) (q : Nat) (f : FiringLine) : Nat :=
  let lo := (lines.map FiringLine.lo).sum
  let hi := (lines.map FiringLine.hi).sum
  if q ≤ lo then f.lo
  else if hi ≤ q then f.hi
  else f.lo + received (shareRounds (lines.length + 1) (q - lo) lines) f.line

/-- The line figures of a cycle (R129). -/
def figuresOf (lines : List FiringLine) (q : Nat) (f : FiringLine) : LineFigures :=
  let a := allocate lines q f
  ⟨f.lo, f.hi, a, a * 1000 / f.rated⟩

namespace Block

/-- The lines counted as firing, in line-number order, with their bounds (R117, R124). -/
def firingLines (b : Block) : List FiringLine :=
  allLines.filterMap fun l =>
    if (b.blu.copies.get l).state = .firing then
      some (boundsOf l (b.blu.copies.get l).ceiling (b.lineParams l))
    else none

/-- A line's steam as uncontrolled steam (R117, R123). -/
def uncontrolledOf (b : Block) (l : LineId) : Nat :=
  match (b.blu.copies.get l).state with
  | .warmup | .hold | .rundown => (b.blu.copies.get l).steam.getD 0
  | .idle | .firing => 0

/-- The uncontrolled steam U (R123). -/
def uncontrolledNow (b : Block) : Nat := (allLines.map b.uncontrolledOf).sum

/-- The figures of a balance cycle, formed from the copies and the TDU's hand-over (R122 to R130). -/
def balanceFigures (b : Block) : Blu :=
  let p := b.cmc.params.plant
  let lines := b.firingLines
  let x1 := b.turbine .t1
  let x2 := b.turbine .t2
  let trim := trimNow b.blu.pressure (lines != []) p
  let u := b.uncontrolledNow
  let dem : Int := x1.targetBefore + x2.targetBefore + p.bMin + trim
  let hi := (lines.map FiringLine.hi).sum
  let cuts := cutsOf (dem - (hi + u)) x1.targetBefore
    (cutFloor x1.mark (b.turbineParams .t1).s0 x1.targetBefore) x2.targetBefore
    (cutFloor x2.mark (b.turbineParams .t2).s0 x2.targetBefore)
  let demCut : Int := dem - cuts.cut1 - cuts.cut2
  let q := (demCut - u).toNat
  let figs := lines.map fun f => (f.line, figuresOf lines q f)
  let surplus := (((figs.map fun f => f.2.alloc).sum : Int) + u - demCut).toNat
  let target := min (p.bMin + surplus) p.bypassMax
  let elShort := b.tdu.elConv +
    (if x1.mark = .free then cuts.cut1 * 100 / (b.turbineParams .t1).sigma else 0)
  let heatShort := b.tdu.heatConv +
    (if x2.mark = .free then cuts.cut2 * 100 / (b.turbineParams .t2).sigmaH else 0)
  let unabsorbed := p.bMin + surplus - target
  { b.blu with
    trim := trim
    uncontrolled := u
    demand := dem
    demandCut := demCut
    cut1 := cuts.cut1
    cut2 := cuts.cut2
    residual := cuts.residual
    elShort := elShort
    heatShort := heatShort
    figures := .tabulate fun l => (figs.find? fun f => f.1 == l).map Prod.snd
    surplus := surplus
    target := target
    unabsorbed := unabsorbed
    setpoint := target
    short := decide (0 < elShort) || decide (0 < heatShort)
    saturated := decide (0 < unabsorbed)
    stamp := some b.now }

/-- A firing line's load target delivered (R129, R36). -/
def deliverTarget (b : Block) (l : LineId) : Block :=
  match b.blu.figures.get l with
  | some f => b.loadTarget l f.target
  | none => b

/-- COMMIT_SHORT and BYPASS_SAT where short and saturated went from 0 to 1 (R126, R130). -/
def cycleNotices (b : Block) (shortBefore saturatedBefore : Bool) : Block :=
  let b1 :=
    if b.blu.short && !shortBefore then
      b.raise .commitShort 0 (u8 (if 0 < b.blu.elShort then 0 else 1))
    else b
  if b.blu.saturated && !saturatedBefore then b1.raise .bypassSat 0 (u32 b.blu.unabsorbed) else b1

/-- The balance cycle (R120): the TDU's part, the figures, the load targets, the bypass setpoint, and the
turbine setpoints. -/
def balanceCycle (b : Block) : Block :=
  let b1 := b.applyQueue.convert
  let b2 := { b1 with blu := b1.balanceFigures }
  let b3 := allLines.foldl deliverTarget b2
  let b4 := b3.moveSetpoints ((b1.turbine .t1).targetBefore - b2.blu.cut1)
    ((b1.turbine .t2).targetBefore - b2.blu.cut2)
  b4.cycleNotices b.blu.short b.blu.saturated

end Block

end Sys2Proof.Machine
end

