-- ==== Sys2Proof/Machine/Params.lean ====
section
/-! DEFINITION. The parameter set's addressing and writes (R209, R210, chapter 13.2): the items of the
gathering table with their ranges, the stored value of a write, and the image body's order of values. -/

namespace Sys2Proof.Machine
open Sys2Proof

/-- A parameter by group, instance and item (13.1). -/
inductive ParamName where
  | plant (item : Nat)
  | line (l : LineId) (item : Nat)
  | quantity (x : Pollutant) (item : Nat)
  | turbine (t : TurbineId) (item : Nat)
  | bus (item : Nat)
  | noticeClass (k : NoticeKind) (item : Nat)
deriving DecidableEq, Repr

/-- An item of a group: its range, whether it is idle-only, and its place in the group's record. -/
structure Item (α : Type) where
  lo   : Nat
  hi   : Nat
  idle : Bool
  get  : α → Nat
  set  : α → Nat → α

/-- Items of the PLANT group (13.2). -/
def plantItems : List (Item PlantParams) :=
  [⟨30, 170, true, (·.refO2), fun p v => { p with refO2 := v }⟩,
   ⟨1000, 12000, false, (·.pSet), fun p v => { p with pSet := v }⟩,
   ⟨0, 1000, false, (·.kP), fun p v => { p with kP := v }⟩,
   ⟨0, 100, false, (·.deadBand), fun p v => { p with deadBand := v }⟩,
   ⟨0, 500, false, (·.tMax), fun p v => { p with tMax := v }⟩,
   ⟨0, 200, false, (·.bMin), fun p v => { p with bMin := v }⟩,
   ⟨0, 1500, false, (·.bypassMax), fun p v => { p with bypassMax := v }⟩]

/-- Items of the LINE group (13.2). -/
def lineItems : List (Item LineParams) :=
  [⟨6000, 11000, false, (·.tMin), fun p v => { p with tMin := v }⟩,
   ⟨30, 600, false, (·.confirmTime), fun p v => { p with confirmTime := v }⟩,
   ⟨300, 7200, false, (·.holdLimit), fun p v => { p with holdLimit := v }⟩,
   ⟨600, 14400, false, (·.burnoutTime), fun p v => { p with burnoutTime := v }⟩,
   ⟨5000, 150000, true, (·.ratedHeat), fun p v => { p with ratedHeat := v }⟩,
   ⟨50, 5000, true, (·.strokeMass), fun p v => { p with strokeMass := v }⟩,
   ⟨10, 600, false, (·.strokeTimeout), fun p v => { p with strokeTimeout := v }⟩,
   ⟨1500, 3500, false, (·.hNet), fun p v => { p with hNet := v }⟩,
   ⟨500, 950, false, (·.eta), fun p v => { p with eta := v }⟩,
   ⟨10, 200, false, (·.ramp), fun p v => { p with ramp := v }⟩,
   ⟨300, 900, false, (·.minLoad), fun p v => { p with minLoad := v }⟩] ++
  [⟨0, 2000, false, (·.base), fun p v => { p with base := v }⟩,
   ⟨0, 2000, false, (·.gain), fun p v => { p with gain := v }⟩,
   ⟨100, 1000, false, (·.acidThreshold), fun p v => { p with acidThreshold := v }⟩,
   ⟨10, 4000, false, (·.dMax), fun p v => { p with dMax := v }⟩,
   ⟨10, 200, false, (·.reagentStep), fun p v => { p with reagentStep := v }⟩,
   ⟨10, 200, false, (·.guardStep), fun p v => { p with guardStep := v }⟩,
   ⟨0, 1100, false, (·.guardFloor), fun p v => { p with guardFloor := v }⟩,
   ⟨300, 1100, false, (·.deviationCeil), fun p v => { p with deviationCeil := v }⟩,
   ⟨30, 240, true, (·.episodeLimit), fun p v => { p with episodeLimit := v }⟩,
   ⟨50, 1500, true, (·.ratedSteam), fun p v => { p with ratedSteam := v }⟩,
   ⟨1, 100, false, (·.weight), fun p v => { p with weight := v }⟩]

/-- Items of the QUANTITY group (13.2). -/
def quantityItems : List (Item QuantityParams) :=
  [⟨0, 1, true, (·.basis), fun p v => { p with basis := v }⟩,
   ⟨1, 65535, false, (·.hhLimit), fun p v => { p with hhLimit := v }⟩,
   ⟨1, 65535, false, (·.dailyLimit), fun p v => { p with dailyLimit := v }⟩]

/-- Items of the TURBINE group (13.2). -/
def turbineItems : List (Item TurbineParams) :=
  [⟨0, 500, true, (·.s0), fun p v => { p with s0 := v }⟩,
   ⟨100, 3000, true, (·.sigma), fun p v => { p with sigma := v }⟩,
   ⟨50, 1000, true, (·.sigmaH), fun p v => { p with sigmaH := v }⟩,
   ⟨50, 1500, true, (·.sMax), fun p v => { p with sMax := v }⟩,
   ⟨0, 200, false, (·.sWarm), fun p v => { p with sWarm := v }⟩,
   ⟨10, 300, false, (·.ramp), fun p v => { p with ramp := v }⟩,
   ⟨600, 3600, false, (·.runupTimeout), fun p v => { p with runupTimeout := v }⟩,
   ⟨500, 12000, true, (·.ratedSpeed), fun p v => { p with ratedSpeed := v }⟩,
   ⟨500, 14000, true, (·.overspeed), fun p v => { p with overspeed := v }⟩,
   ⟨1, 250, true, (·.teeth), fun p v => { p with teeth := v }⟩]

/-- Items of the BUS group (13.2). -/
def busItems : List (Item BusParams) :=
  [⟨38400, 230400, true, (·.baud), fun p v => { p with baud := v }⟩,
   ⟨1, 15, false, (·.turnaround), fun p v => { p with turnaround := v }⟩,
   ⟨1, 20, false, (·.responseTimeout), fun p v => { p with responseTimeout := v }⟩]

/-- The item of a NOTICE CLASS instance (13.2). -/
def classItems (k : NoticeKind) : List (Item (List Nat)) :=
  [⟨0, 3, false, fun cs => cs.getD (k.code - 1) 0, fun cs v => cs.set (k.code - 1) v⟩]

/-- The item of a number, 1 first. -/
def itemAt {α : Type} (items : List (Item α)) (n : Nat) : Option (Item α) :=
  if n = 0 then none else items[n - 1]?

/-- An item of a group as an item of the whole set. -/
def Item.lift {α : Type} (get : Params → α) (set : Params → α → Params) (i : Item α) : Item Params :=
  ⟨i.lo, i.hi, i.idle, fun p => i.get (get p), fun p v => set p (i.set (get p) v)⟩

/-- The item of a name, none where it is not in the group; σh is in TURBINE 2 only. -/
def ParamName.item : ParamName → Option (Item Params)
  | .plant n => (itemAt plantItems n).map (.lift (·.plant) fun p x => { p with plant := x })
  | .line l n =>
    (itemAt lineItems n).map (.lift (·.line.get l) fun p x => { p with line := p.line.set l x })
  | .quantity x n =>
    (itemAt quantityItems n).map
      (.lift (·.quantity.get x) fun p y => { p with quantity := p.quantity.set x y })
  | .turbine t n =>
    if t = .t1 ∧ n = 3 then none
    else (itemAt turbineItems n).map
      (.lift (·.turbine.get t) fun p x => { p with turbine := p.turbine.set t x })
  | .bus n => (itemAt busItems n).map (.lift (·.bus) fun p x => { p with bus := x })
  | .noticeClass k n =>
    (itemAt (classItems k) n).map (.lift (·.classes) fun p x => { p with classes := x })

/-- The parameter a group, instance and item name; none outside the groups and instances (R210, test 1). -/
def paramName (group inst item : Nat) : Option ParamName :=
  match group with
  | 1 => if inst = 0 then some (.plant item) else none
  | 2 => (lineOf inst).map fun l => .line l item
  | 3 => (pollutantOf inst).map fun x => .quantity x item
  | 4 => (turbineOf inst).map fun t => .turbine t item
  | 5 => if inst = 0 then some (.bus item) else none
  | 6 => (noticeKindOf inst).map fun k => .noticeClass k item
  | _ => none

/-- A baud rounded to the highest listed rate not above it, or 38400 below all (R161). -/
def listedBaud (v : Nat) : Nat :=
  if 230400 ≤ v then 230400
  else if 115200 ≤ v then 115200
  else if 57600 ≤ v then 57600
  else 38400

/-- The owner's further rounding, after the range clamp (R38, R144, R161). -/
def ParamName.round (n : ParamName) (p : Params) (v : Nat) : Nat :=
  match n with
  | .line _ 10 => downTo10 v
  | .turbine _ 6 => downTo10 v
  | .turbine t 1 => min v (p.turbine.get t).sMax
  | .bus 1 => listedBaud v
  | _ => v

/-- What else a write does to the set: an smax below s0 lowers s0 (R144). -/
def ParamName.alsoSet (n : ParamName) (p : Params) : Params :=
  match n with
  | .turbine t 4 =>
    let x := p.turbine.get t
    { p with turbine := p.turbine.set t { x with s0 := min x.s0 x.sMax } }
  | _ => p

/-- The value a write stores (R210). -/
def ParamName.stored (n : ParamName) (i : Item Params) (p : Params) (v : Nat) : Nat :=
  n.round p (clamp i.lo i.hi v)

/-- The set after a write (R210). -/
def ParamName.write (n : ParamName) (i : Item Params) (p : Params) (v : Nat) : Params :=
  n.alsoSet (i.set p (n.stored i p v))

/-- A basis item of the QUANTITY group. -/
def ParamName.isBasis : ParamName → Bool
  | .quantity _ 1 => true
  | _ => false

/-- The idle-only test of the parameter's owner (R209). -/
def ParamName.ownerIdle (n : ParamName) (b : Block) : Bool :=
  match n with
  | .line l _ => b.idle l
  | .turbine t _ => b.offline t
  | .quantity _ _ | .plant _ => b.allIdle
  | .bus _ => b.allIdle && b.offline .t1 && b.offline .t2
  | .noticeClass _ _ => true

/-! ## The image's order of values (R212) -/

/-- The names of one group's instance with items 1 to `n`. -/
def namesTo (f : Nat → ParamName) (n : Nat) : List ParamName := (List.range n).map fun k => f (k + 1)

/-- The 137 parameters in group, instance and item order; TURBINE 1 has no item 3. -/
def allParamNames : List ParamName :=
  namesTo .plant 7 ++ allLines.flatMap (fun l => namesTo (.line l) 22) ++
    allPollutants.flatMap (fun x => namesTo (.quantity x) 3) ++
    ((namesTo (.turbine .t1) 10).filter fun n => n != .turbine .t1 3) ++ namesTo (.turbine .t2) 10 ++
    namesTo .bus 3 ++ allNoticeKinds.flatMap fun k => namesTo (.noticeClass k) 1

/-- The value of a parameter. -/
def ParamName.value (n : ParamName) (p : Params) : Nat :=
  match n.item with
  | some i => i.get p
  | none => 0

/-- The values of a set in image order. -/
def Params.values (p : Params) : List Nat := allParamNames.map fun n => n.value p

/-- One value of an image taken at the load (R213): clamped and rounded; a basis other than 0 or 1 takes
its default. The bound of s0 by smax is applied after the last value. -/
def takeImageValue (p : Params) (nv : ParamName × Nat) : Params :=
  match nv.1.item with
  | none => p
  | some i =>
    if nv.1.isBasis && decide (1 < nv.2) then p
    else
      match nv.1 with
      | .turbine _ 1 => i.set p (clamp i.lo i.hi nv.2)
      | n => i.set p (n.stored i p nv.2)

/-- s0 bounded by smax (R144). -/
def TurbineParams.bounded (x : TurbineParams) : TurbineParams := { x with s0 := min x.s0 x.sMax }

/-- The set an accepted image gives, from its 137 values (R213); the set before is at its defaults. -/
def paramsOfImage (values : List Nat) : Params :=
  let p := (allParamNames.zip values).foldl takeImageValue Params.default
  { p with turbine := ⟨p.turbine.t1.bounded, p.turbine.t2.bounded⟩ }

end Sys2Proof.Machine
end

