-- ==== Sys2Proof/Machine/Clock.lean ====
section
/-! DEFINITION. The Plant Clock (chapter 2): the deliveries of a second tick and of a clock set to their
owners (R24 to R26, R30, R31), SECOND_TICK, and the requests CLOCK SET (R28 to R31) and CLOCK READ (R33). -/

namespace Sys2Proof.Machine
open Sys2Proof

/-! ## Deliveries -/

/-- A line's state and effective ceiling as the BLU has taken them (R117). -/
structure Taken where
  state   : LineState
  ceiling : Nat
deriving DecidableEq, Repr

/-- What the BLU's copy of each line holds. -/
def Block.taken (b : Block) : PerLine Taken :=
  .tabulate fun l => ⟨(b.blu.copies.get l).state, (b.blu.copies.get l).ceiling⟩

/-- The part with the BLU's copies of state and ceiling as given. -/
def Block.withTaken (b : Block) (x : PerLine Taken) : Block :=
  b.modBlu fun u =>
    { u with copies := .tabulate fun l =>
        { u.copies.get l with state := (x.get l).state, ceiling := (x.get l).ceiling } }

/-- Deliveries under way: the part, and the state and ceiling the BLU has taken, while the part's copies hold the
newest (R134). -/
structure Pass where
  block : Block
  taken : PerLine Taken
deriving DecidableEq, Repr

/-- The LSC takes a waiting rundown among the deliveries, but where the order puts it off (R108). -/
def Block.takeLimitNow (b : Block) (l : LineId) : Block :=
  if b.order.contains (.limitLater l) then b else b.takeLimit l

/-- The BLU takes what a line has delivered to it (R21, R97). -/
def Pass.takeLine (x : Pass) (l : LineId) : Pass := { x with taken := x.taken.set l (x.block.taken.get l) }

/-- The balance cycle on the states and ceilings the BLU has taken (R134); it changes none of them. -/
def Pass.cycle (x : Pass) : Pass :=
  { x with block := (x.block.withTaken x.taken).balanceCycle.withTaken x.block.taken }

/-- A delivery's effect on the part, for every owner but the BLU (R24 to R26, R108). -/
def Job.act (j : Job) (b : Block) : Block :=
  match j.owner, j.close with
  | .lsc l, none => b.lscTick l
  | .gfu l, none => b.gfuTick l
  | .turbine t, none => b.turbineTick t
  | .gfuClose l, some (.minute m _) => b.gfuClose l m
  | .ccu l, some (.minute m _) => b.ccuClose l m
  | .eau l, some c => b.eauClose l c
  | .dau l, some c => (b.dauClose l c).deliverLimit l (b.dauRundown l c)
  | .limit l, some _ => b.takeLimitNow l
  | _, _ => b

/-- A delivery taken by its owner (R24 to R26, R134). -/
def Job.run (j : Job) (x : Pass) : Pass :=
  match j.owner, j.close with
  | .blu l, none => x.takeLine l
  | .balance, none => x.cycle
  | _, _ => { x with block := j.act x.block }

/-- The second tick's deliveries (R24), and after them those by which the BLU takes what the lines deliver to it
(R21, R134). The SBM compares its due times with uptime itself (R171). -/
def tickJobs : List Job :=
  (allLines.map fun l => ⟨.lsc l, none⟩) ++ (allLines.map fun l => ⟨.gfu l, none⟩) ++
    [⟨.turbine .t1, none⟩, ⟨.turbine .t2, none⟩] ++ (allLines.map fun l => ⟨.blu l, none⟩)

/-- The deliveries of one close (R26). The rundown a minute close may bring from a DAU to the LSC is a delivery
of its own, which others may come before (R108). -/
def closeJobs (c : Close) : List Job :=
  match c with
  | .minute _ _ =>
    allLines.flatMap fun l =>
      [⟨.eau l, some c⟩, ⟨.ccu l, some c⟩, ⟨.dau l, some c⟩, ⟨.limit l, some c⟩, ⟨.gfuClose l, some c⟩]
  | .halfHour _ _ _ _ => allLines.map fun l => ⟨.eau l, some c⟩
  | .day _ _ _ _ | .yearChange _ _ => allLines.flatMap fun l => [⟨.eau l, some c⟩, ⟨.dau l, some c⟩]

/-- The oldest delivery of an owner taken out of those waiting. -/
def takeJob (o : Owner) : List Job → Option (Job × List Job)
  | [] => none
  | j :: js =>
    if j.owner = o then some (j, js) else (takeJob o js).map fun r => (r.1, j :: r.2)

/-- The deliveries in the order they are taken: as `order` names their owners, each owner's oldest first,
then those not named. Closes reaching one owner keep their order (R26). A line state change can so fall between the
EAU's and the DAU's taking of one minute close (R21), and the flag of R67 and the count of R105 then differ though no
cause has changed: DESIGN CHOICE (notes/assumptions/50.md). -/
def arrange : List Owner → List Job → List Job
  | [], js => js
  | o :: os, js =>
    match takeJob o js with
    | some (j, rest) => j :: arrange os rest
    | none => arrange os js

namespace Block

/-- Deliveries taken one after the other, with none of an earlier instant left. -/
def deliverAll (b : Block) (js : List Job) : Block :=
  (js.foldl (fun x j => Job.run j x) (Pass.mk b b.taken)).block

/-- Deliveries taken one after the other. A rundown that waits from an earlier instant is taken before them; one
they bring that no LSC has taken among them is taken at their end, but where the order puts it off to after the
commands that follow in the same instant (R108, notes/assumptions/48.md). -/
def deliver (b : Block) (js : List Job) : Block := allLines.foldl takeLimitNow (b.takeLimits.deliverAll js)

/-- A year change is among these deliveries; only a CLOCK SET with every line IDLE brings one (R28, R31). -/
def yearChanges (js : List Job) : Bool :=
  js.any fun j => match j.close with | some (.yearChange _ _) => true | _ => false

/-- The order puts off the closes of this owner, among the deliveries `js`, until after the commands that follow in the same instant, which may
bring a stroke (R63), a change of cause (R67) or of line state (R21) between two takings of one close: DESIGN CHOICE
for the form (notes/assumptions/49.md). A DAU puts none off where a year change is among them, which so reaches it
while every line is IDLE (R112). -/
def putsOff (b : Block) (js : List Job) (j : Job) : Bool :=
  match j.owner with
  | .eau l => b.order.contains (.eauLater l)
  | .ccu l => b.order.contains (.ccuLater l)
  | .dau l => b.order.contains (.dauLater l) && !yearChanges js
  | .gfuClose l => b.order.contains (.gfuCloseLater l)
  | _ => false

/-- The closes that were put off are taken. -/
def takeLate (b : Block) : Block :=
  match b.clock.late with
  | [] => b
  | j :: js => { b with clock := { b.clock with late := [] } }.deliverAll (j :: js)

/-- Deliveries taken in the order the model's field gives them, but for the closes it puts off. -/
def runJobs (b : Block) (js : List Job) : Block :=
  let arranged := arrange b.order js
  let b1 := b.deliver (arranged.filter fun j => !b.putsOff js j)
  { b1 with clock := { b1.clock with late := b1.clock.late ++ arranged.filter (b.putsOff js) } }

/-! ## The second tick (R24 to R26) -/

/-- The closes that belong to the second ended by a tick, from the time before it to the time after (R26). -/
def closesAt (t t' : Time) : List Close :=
  (if t'.second % 60 = 0 then [.minute t.minuteId false] else []) ++
  (if t'.second % 1800 = 0 then [.halfHour t.year t.day t.halfHour false] else []) ++
  (if t'.second = 0 then [.day t.year t.day (t'.year != t.year) false] else [])

/-- The closes at the end of 2099 (R24): no year rollover is delivered. -/
def closesAtEnd (t : Time) : List Close :=
  [.minute t.minuteId false, .halfHour t.year t.day t.halfHour false, .day t.year t.day false false]

/-- The balance tick of a tick, where one is produced (R25). -/
def balanceJob (due : Bool) : List Job := if due then [⟨.balance, none⟩] else []

/-- Uptime counted (R24). -/
def countUptime (b : Block) : Block :=
  { b with clock := { b.clock with uptime := satAdd Config.max32 b.clock.uptime 1 } }

/-- A tick while UNSET (R25). -/
def tickUnset (b : Block) : Block :=
  let p := b.clock.phase + 1
  let due := decide (6 ≤ p)
  { b with clock := { b.clock with phase := if due then 0 else p } }.runJobs (tickJobs ++ balanceJob due)

/-- A tick while RUNNING that reaches a new time (R24 to R26). -/
def tickTo (b : Block) (t t' : Time) : Block :=
  { b with clock := { b.clock with time := some t', phase := t'.second % 6 } }.runJobs
    (tickJobs ++ balanceJob (t'.second % 6 == 0) ++ (closesAt t t').flatMap closeJobs)

/-- The tick that ends 2099 (R24): its closes are delivered, then the clock is UNSET. What the clock shows
to those deliveries is a free value. Closes the order puts off are taken with the clock already UNSET, the return to
analyzer A at a minute close (R59) among them: DESIGN CHOICE (notes/assumptions/49.md). -/
def tickEnd (b : Block) (t : Time) : Block :=
  let shown : Time := ⟨Config.endOfRangeYear b.clock.uptime, Config.endOfRangeDay b.clock.uptime,
    Config.endOfRangeSecond b.clock.uptime⟩
  let b1 := { b with clock := { b.clock with time := some shown, phase := 0 } }.runJobs
    (tickJobs ++ balanceJob true ++ (closesAtEnd t).flatMap closeJobs)
  { b1 with clock := { b1.clock with time := none } }

/-- A second tick (R24). -/
def secondTick (b : Block) : Block :=
  let b0 := b.countUptime
  match b.clock.time with
  | none => b0.tickUnset
  | some t =>
    match t.advance with
    | some t' => b0.tickTo t t'
    | none => b0.tickEnd t

/-! ## CLOCK SET (R28 to R31) -/

/-- The closes of an accepted set while RUNNING, each named by the time before the set, with the cut mark. -/
def setCloses (t new : Time) : List Close :=
  let sameDay := t.year == new.year && t.day == new.day
  [.minute t.minuteId true] ++
  (if sameDay && t.halfHour == new.halfHour then [] else [.halfHour t.year t.day t.halfHour true]) ++
  (if sameDay then [] else [.day t.year t.day false true]) ++
  (if t.year = new.year then [] else [.yearChange t.year new.year])

/-- The cut set of the closes delivered (R28): MINUTE, HALF_HOUR, DAY, YEAR. -/
def cutSet (cs : List Close) : Nat :=
  setBits
    [cs.any fun c => match c with | .minute _ _ => true | _ => false,
     cs.any fun c => match c with | .halfHour _ _ _ _ => true | _ => false,
     cs.any fun c => match c with | .day _ _ _ _ => true | _ => false,
     cs.any fun c => match c with | .yearChange _ _ => true | _ => false]

/-- The accepted set: what an earlier instant has left, the closes at the old time (but those put off), then the new
time and last set (R28 to R31). -/
def setTime (b : Block) (new : Time) (closes : List Close) : Block :=
  let b1 := b.takeLate.runJobs (closes.flatMap closeJobs)
  { b1 with clock := { b1.clock with time := some new, lastSet := some new } }

/-- The closes a set to a new time delivers: none while UNSET (R29). -/
def closesOfSet (b : Block) (new : Time) : List Close :=
  match b.clock.time with
  | none => []
  | some t => setCloses t new

/-- CLOCK SET would change the year of a RUNNING clock with a line not IDLE (R28, test 2). -/
def setForbidden (b : Block) (new : Time) : Bool :=
  match b.clock.time with
  | none => false
  | some t => t.year != new.year && !b.allIdle

/-- CLOCK SET (R28). The reply carries the stored time, which every such reply has, with no presence byte: DEDUCED
(notes/assumptions/27.md). -/
def serveClockSet (b : Block) (year day second : Nat) : Block × Reply :=
  let new : Time := ⟨year, day, second⟩
  if !new.valid then (b, refuse .range)
  else if b.setForbidden new then (b, refuse .wrongState)
  else
    let cs := b.closesOfSet new
    (b.setTime new cs, .done (u8 1 ++ encTime new ++ u8 (cutSet cs)))

/-! ## CLOCK READ (R33) -/

/-- UNSET 0, RUNNING 1. -/
def clockStateCode (b : Block) : Nat := if b.running then 1 else 0

/-- CLOCK READ (R33). -/
def serveClockRead (b : Block) : Block × Reply :=
  let c := b.clock
  (b, .done (u8 b.clockStateCode ++
    optional 2 u16 (c.time.map Time.year) ++ optional 2 u16 (c.time.map Time.day) ++
    optional 4 u32 (c.time.map Time.second) ++
    optional 1 flag (c.time.map fun t => isLeap t.year) ++
    optional 1 u8 (c.time.map Time.halfHour) ++ optional 1 u8 (c.time.map Time.minuteOfHalfHour) ++
    u8 c.phase ++ u32 c.uptime ++ optional 8 encTime c.lastSet))

end Block

/-- SECOND_TICK (R24): the order of the deliveries is taken from the command. What an earlier instant has left to be
taken is taken before it (notes/assumptions/49.md). -/
def execSecondTick (order : List Owner) (s : State) : Host.Outcome State Fault Refusal :=
  s.onBlock fun b => { b.takeLate with order := order }.secondTick

end Sys2Proof.Machine
end

