-- ==== Sys2Proof/Machine/Stations.lean ====
section
/-! DEFINITION. Stations and roles (chapters 9.3, 9.7 and 10): reply payloads (R165) and their delivery,
bindings (R176), health (R172, R173), and the enrolment walk (R177 to R183). -/

namespace Sys2Proof.Machine
open Sys2Proof

/-! ## Reply payloads (R165) -/

/-- A reply's status byte. -/
def okFaultOf (v : Byte) : OkFault := if v = 0 then .ok else .fault

/-- A ram position byte. -/
def ramPositionOf (v : Byte) : RamPosition := if v = 0 then .retracted else if v = 1 then .moving else .extended

/-- A quantity's status byte. -/
def cellStatusOf (v : Byte) : CellStatus := if v = 0 then .ok else if v = 1 then .maint else .fault

/-- A breaker byte. -/
def breakerOf (v : Byte) : Breaker := if v = 0 then .opened else .closed

/-- The byte of a payload at an offset. -/
def byteAt (p : List Byte) (k : Nat) : Byte := p.getD k 0

/-- One quantity of an analyzer reply, by its index from 0. -/
def cellAt (p : List Byte) (k : Nat) : Nat × CellStatus :=
  (field p (3 * k) 2, cellStatusOf (byteAt p (3 * k + 2)))

/-- The seven quantities of an analyzer reply, in index order. -/
def analyzerReplyOf (p : List Byte) : AnalyzerReply :=
  ⟨⟨cellAt p 0, cellAt p 1, cellAt p 2, cellAt p 3, cellAt p 4⟩, cellAt p 5, cellAt p 6⟩

/-- The length and codes of a reply fit the kind of the station that sent it (R165, R167 check 6). -/
def replyFits (k : StationKind) (p : List Byte) : Bool :=
  match k with
  | .feeder => p.length == 2 && decide ((byteAt p 0).toNat ≤ 2) && decide ((byteAt p 1).toNat ≤ 1)
  | .furnace => p.length == 5 && decide ((byteAt p 4).toNat ≤ 1)
  | .analyzer => p.length == 21 && (List.range 7).all fun i => decide ((byteAt p (3 * i + 2)).toNat ≤ 2)
  | .dosing | .header | .bypass => p.length == 3 && decide ((byteAt p 2).toNat ≤ 1)
  | .turbine =>
    p.length == 4 && decide (field p 0 2 ≤ 1000) && decide ((byteAt p 2).toNat ≤ 1) &&
      decide ((byteAt p 3).toNat ≤ 1)

/-- The entry bound to a role (R176): a LOST one takes the return state BOUND. -/
def Station.bind (r : Role) (e : Station) : Station :=
  { e with role := some r, returnBound := e.lost || e.returnBound }

/-- The entry unbound (R176): a LOST one takes the return state ENROLLED. -/
def Station.unbind (e : Station) : Station :=
  { e with role := none, returnBound := !e.lost && e.returnBound }

namespace Block

/-- A good reply delivered to the owners of a role (R165), the return of a LOST station first (R173). -/
def deliverReply (b : Block) (r : Role) (p : List Byte) (returned : Bool) : Block :=
  match r with
  | .feeder l => b.feederReport l (ramPositionOf (byteAt p 0)) (okFaultOf (byteAt p 1))
  | .furnace l =>
    let st := okFaultOf (byteAt p 4)
    ((b.furnaceSample l (field p 0 2) st).steamSample l (field p 2 2) st).bluSteam l (field p 2 2) st returned
  | .analyzerA l =>
    (if returned then b.analyzerReturn l true else b).analyzerReply l true (analyzerReplyOf p)
  | .analyzerB l =>
    (if returned then b.analyzerReturn l false else b).analyzerReply l false (analyzerReplyOf p)
  | .dosing l => b.dosingReply l (field p 0 2) (okFaultOf (byteAt p 2)) returned
  | .header => b.headerReply (field p 0 2) (okFaultOf (byteAt p 2))
  | .turbine t =>
    b.turbineReply t (field p 0 2) (breakerOf (byteAt p 2)) (okFaultOf (byteAt p 3)) returned
  | .bypass => b.bypassReply (field p 0 2) (okFaultOf (byteAt p 2))

/-- The loss of a bound station delivered to the owners of its role (R172). -/
def deliverLoss (b : Block) (r : Role) : Block :=
  match r with
  | .feeder l => b.feederLoss l
  | .furnace l => (b.furnaceLoss l).bluStale l
  | .analyzerA l => b.analyzerLoss l true
  | .analyzerB l => b.analyzerLoss l false
  | .dosing l => b.dosingLoss l
  | .header => b.headerGone
  | .turbine t => b.turbineLoss t
  | .bypass => b.bypassGone

/-- A binding delivered to the owners of the role (R176), with whether the station is LOST. The LSC and
the GFU read the role table itself, and the BLU's copies wait for the first reply. -/
def deliverBinding (b : Block) (r : Role) (lost : Bool) : Block :=
  match r with
  | .analyzerA l => b.analyzerBound l true lost
  | .analyzerB l => b.analyzerBound l false lost
  | .dosing l => b.dosingBound l lost
  | .turbine t => b.turbineBound t lost
  | .feeder _ | .furnace _ | .header | .bypass => b

/-- An unbinding delivered to the owners of the role (R176). -/
def deliverUnbinding (b : Block) (r : Role) : Block :=
  match r with
  | .feeder _ => b
  | .furnace l => (b.furnaceCleared l).bluUnbound l
  | .analyzerA l => b.analyzerUnbound l true
  | .analyzerB l => b.analyzerUnbound l false
  | .dosing l => b.dosingUnbound l
  | .header => b.headerGone
  | .turbine t => b.turbineUnbound t
  | .bypass => b.bypassGone

/-! ## The tables (R175, R176) -/

/-- The entry of a number changed. -/
def modStation (b : Block) (n : Nat) (f : Station → Station) : Block :=
  b.modBus fun x => { x with stations := x.stations.map fun e => if e.number == n then f e else e }

/-- The state rule of a role (chapter 10.2). -/
def stateRule (b : Block) (r : Role) : Bool :=
  match r with
  | .feeder l | .furnace l | .analyzerA l | .dosing l => b.idle l
  | .analyzerB _ | .header | .bypass => true
  | .turbine t => b.offline t

/-- A binding made and delivered (R176). -/
def bindRole (b : Block) (e : Station) (r : Role) : Block :=
  (b.modStation e.number (Station.bind r)).deliverBinding r e.lost

/-- An unbinding made and delivered (R176). -/
def unbindRole (b : Block) (e : Station) (r : Role) : Block :=
  (b.modStation e.number Station.unbind).deliverUnbinding r

/-- A frame placed in the command queue (R169). -/
def enqueue (b : Block) (u : Unanswered) : Block := b.modBus fun x => { x with queue := x.queue ++ [u] }

/-- Free places of the command queue. -/
def queueRoom (b : Block) : Nat := Config.commandQueueSize - b.bus.queue.length

end Block

/-! ## Health (R172, R173) -/

/-- Outcomes of a POLL or an ASSIGN, in the order of R166. -/
inductive PollOutcome where
  | good | crossed | bad | miss
deriving DecidableEq, Repr

def PollOutcome.code : PollOutcome → Nat
  | .good => 0
  | .crossed => 1
  | .bad => 2
  | .miss => 3

/-- A failed poll counted on an entry (R172): one that becomes LOST keeps the state it held as the return state. -/
def Station.fail (e : Station) (o : PollOutcome) : Station :=
  let misses := satAdd Config.max8 e.misses 1
  let lost := decide (Config.missThreshold ≤ misses)
  { e with misses := misses
           lost := e.lost || lost
           returnBound := if lost && !e.lost then e.role.isSome else e.returnBound
           miss := if o = .miss then satAdd Config.max16 e.miss 1 else e.miss
           crossed := if o = .crossed then satAdd Config.max16 e.crossed 1 else e.crossed
           bad := if o = .bad then satAdd Config.max16 e.bad 1 else e.bad }

/-- A good reply counted on an entry (R172, R173). -/
def Station.succeed (e : Station) (now : Stamp) : Station :=
  { e with misses := 0, lost := false, good := satAdd Config.max16 e.good 1, lastGood := now }

namespace Block

/-- A failed poll of an entry (R172): at the third in a row STATION_LOST, and the loss delivered. -/
def pollFailed (b : Block) (e : Station) (o : PollOutcome) : Block :=
  let b1 := b.modStation e.number fun x => x.fail o
  if !e.lost && (e.fail o).lost then
    let b2 := b1.raise .stationLost e.number (u8 o.code ++ u8 (roleCode e.role))
    match e.role with
    | some r => b2.deliverLoss r
    | none => b2
  else b1

/-- A good poll of an entry (R172, R173): a LOST one returns with STATION_BACK, and the reply of a bound
one is delivered. -/
def pollGood (b : Block) (e : Station) (payload : List Byte) : Block :=
  let b1 := b.modStation e.number fun x => x.succeed b.now
  let b2 := if e.lost then b1.raise .stationBack e.number (u8 (roleCode e.role)) else b1
  match e.role with
  | some r => b2.deliverReply r payload e.lost
  | none => b2

/-- A POLL outcome handed to the health of the entry of a number; an entry removed takes none (R174). -/
def pollOutcome (b : Block) (n : Nat) (o : PollOutcome) (payload : List Byte) : Block :=
  match b.station n with
  | none => b
  | some e => if o = .good then b.pollGood e payload else b.pollFailed e o

end Block

/-! ## Identifiers as bits (R162) -/

/-- A number's bits, most significant first. -/
def bitsOf : Nat → Nat → List Bool
  | 0, _ => []
  | w + 1, n => (n / 2 ^ w % 2 == 1) :: bitsOf w n

/-- The number of bits, most significant first. -/
def natOfBits (bs : List Bool) : Nat := bs.foldl (fun n b => 2 * n + (if b then 1 else 0)) 0

/-- The 6 bytes of a prefix, bits past its length 0 (R162). -/
def prefixBytes (bits : List Bool) : List Byte :=
  let n := natOfBits ((bits ++ List.replicate 48 false).take 48)
  [byte (n / 1099511627776), byte (n / 4294967296), byte (n / 16777216), byte (n / 65536),
   byte (n / 256), byte n]

/-! ## The enrolment walk (R177 to R183) -/

/-- The found count increased (R177); an increase at 24 leaves a free value of its range. -/
def foundAfter (n : Nat) : Nat := if n < 24 then n + 1 else (Config.foundPastRange n).val

/-- The dropped or duplicates count increased; an increase at 255 leaves a free value of its range. -/
def walkCountAfter (n : Nat) : Nat := if n < Config.max8 then n + 1 else (Config.walkCountPastRange n).toNat

/-- A walk begun (R177). -/
def Walk.begin (w : Walk) (origin : WalkOrigin) : Walk :=
  ⟨true, some origin, [[]], .rollCall, none, 0, 0, 0, w.last⟩

/-- One more candidate dropped. -/
def Walk.drop (w : Walk) : Walk := { w with dropped := walkCountAfter w.dropped, candidate := none }

/-- The candidate numbered (R182): found counted, and its prefix put back on the stack. -/
def Walk.numbered (w : Walk) (c : Candidate) : Walk :=
  { w with found := foundAfter w.found, candidate := none, stack := c.bits :: w.stack, step := .rollCall }

/-- The lowest number not held in the table (R179). -/
def lowestFree (stations : List Station) : Option Nat :=
  ((List.range Config.maxStation).map (· + 1)).find? fun n => !stations.any fun e => e.number == n

/-- An entry put in its place in number order (R175). -/
def insertStation (e : Station) : List Station → List Station
  | [] => [e]
  | f :: fs => if e.number < f.number then e :: f :: fs else f :: insertStation e fs

/-- A new entry (R175, R171). -/
def Station.new (number : Nat) (ident : StationId) (now : Stamp) (due : Nat) : Station :=
  ⟨number, ident, false, false, none, 0, 0, 0, 0, 0, now, due⟩

/-- Outcomes of a ROLL CALL (R168). -/
inductive RollOutcome where
  | silent
  | clean (ident : StationId)
  | garbled
deriving DecidableEq, Repr

namespace Block

/-- The end of a walk (R183), with ENROL_DONE. -/
def endWalk (b : Block) (reason : WalkEnd) : Block :=
  let w := b.bus.walk
  (b.modWalk fun w =>
    { w with active := false, stack := [], step := .none, candidate := none
             last := some ⟨reason, w.found, w.dropped, w.duplicates⟩ }).raise .enrolDone 0
    (u8 reason.code ++ u8 w.found ++ u8 w.dropped ++ u8 w.duplicates)

/-- The walk takes the next prefix, or ends COMPLETE (R178, R183). -/
def takeNext (b : Block) : Block :=
  if b.bus.walk.stack = [] then b.endWalk .complete
  else b.modWalk fun w => { w with step := .rollCall, candidate := none }

/-- An identifier found by a CLEAN outcome (R179). -/
def takeCandidate (b : Block) (ident : StationId) (bits : List Bool) : Block :=
  if kindOf ident.kind = none then (b.modWalk Walk.drop).takeNext
  else
    match b.bus.stations.find? fun e => e.ident == ident with
    | some e => b.modWalk fun w => { w with candidate := some ⟨ident, e.number, true, 0, bits⟩, step := .assign }
    | none =>
      match lowestFree b.bus.stations with
      | none => b.endWalk .full
      | some n => b.modWalk fun w => { w with candidate := some ⟨ident, n, false, 0, bits⟩, step := .assign }

/-- A GARBLED branch (R181): split, or abandoned at 48 bits with DUPLICATE_ID. -/
def split (b : Block) (bits : List Bool) : Block :=
  if bits.length < 48 then
    (b.modWalk fun w => { w with stack := (bits ++ [false]) :: (bits ++ [true]) :: w.stack }).takeNext
  else
    ((b.modWalk fun w => { w with duplicates := walkCountAfter w.duplicates }).raise .duplicateId 0
      (prefixBytes bits)).takeNext

/-- A ROLL CALL outcome (R178). -/
def rollOutcome (b : Block) (bits : List Bool) (o : RollOutcome) : Block :=
  match o with
  | .silent => b.takeNext
  | .clean ident => b.takeCandidate ident bits
  | .garbled => b.split bits

/-- The first role in index order whose stored binding names an identifier (R182). -/
def storedRole (b : Block) (ident : StationId) : Option Role :=
  ((allRoles.zip b.cmc.stored).find? fun x => x.2 == some ident).map Prod.fst

/-- The stored binding of a new entry applied (R182): only where the role is unbound, the kinds match
and the state rule is met. -/
def applyStored (b : Block) (e : Station) : Block :=
  match b.storedRole e.ident with
  | none => b
  | some r => if !b.bound r && kindOf e.ident.kind == some r.kind && b.stateRule r then b.bindRole e r else b

/-- A new entry added (R175, R171, R182). -/
def addStation (b : Block) (e : Station) : Block :=
  b.modBus fun x => { x with stations := insertStation e x.stations }

/-- A GOOD ASSIGN (R182, R189). That of a rejoin leaves the entry's last good stamp as it stands, which R182 does not
say: DEDUCED (notes/assumptions/55.md). -/
def assignGood (b : Block) (c : Candidate) : Block :=
  if c.rejoin then
    (if b.bus.stations.any fun e => e.ident == c.ident then b.modWalk fun w => w.numbered c
     else (b.modWalk Walk.drop).takeNext)
  else
    let e := Station.new c.number c.ident b.now b.clock.uptime
    ((b.addStation e).applyStored e).modWalk fun w => w.numbered c

/-- The FORGET of a dropped candidate's number placed, and the next prefix taken (R180). -/
def placeForget (b : Block) (n : Nat) : Block := (b.enqueue ⟨true, n⟩).takeNext

/-- A failed ASSIGN (R180): tried again once, then the candidate is dropped. -/
def assignFailed (b : Block) (c : Candidate) : Block :=
  if c.attempts < 2 then b.modWalk fun w => { w with step := .assign }
  else if c.rejoin then (b.modWalk Walk.drop).takeNext
  else
    let b1 := b.modWalk fun w => { w with dropped := walkCountAfter w.dropped }
    if 0 < b1.queueRoom then b1.placeForget c.number
    else b1.modWalk fun w => { w with step := .waitRoom }

/-- An ASSIGN outcome (R180, R182). -/
def assignOutcome (b : Block) (o : PollOutcome) : Block :=
  match b.bus.walk.candidate with
  | none => b
  | some c => if o = .good then b.assignGood c else b.assignFailed c

/-- A frame has left the command queue: a walk in WAIT_ROOM places its FORGET, if the place is still free (R180). -/
def queueFreed (b : Block) : Block :=
  match b.bus.walk.step, b.bus.walk.candidate with
  | .waitRoom, some c => if 0 < b.queueRoom then b.placeForget c.number else b
  | _, _ => b

end Block

end Sys2Proof.Machine
end

