-- ==== Sys2Proof/Machine/Bus.lean ====
section
/-! DEFINITION. The station bus (chapter 9): frames (R162), POLL payloads (R164), the arbiter (R170,
R171), the stages of a transaction (R166), answers checked (R167, R168), and the bus's commands. -/

namespace Sys2Proof.Machine
open Sys2Proof

/-! ## Frames (R162) -/

def FrameCommand.byte : FrameCommand → Byte
  | .poll => 0x01
  | .rollCall => 0x02
  | .assign => 0x03
  | .clear => 0x04
  | .forget => 0x05

/-- The characters of a frame of the part: an address character, then data characters (R161, R162). -/
def stationFrame (address : Nat) (command : FrameCommand) (payload : List Byte) : List BusChar :=
  let body := byte address :: command.byte :: byte payload.length :: payload
  ⟨byte address, true, false⟩ :: ((body ++ crcBytes body).drop 1).map fun v => ⟨v, false, false⟩

/-- The period of an entry's polls, read at the grant (R171). -/
def Station.period (e : Station) : Nat :=
  if e.lost then 2
  else
    match e.role with
    | none => 10
    | some (.analyzerA _) | some (.analyzerB _) | some (.dosing _) => 5
    | some (.feeder _) | some (.furnace _) | some .header | some (.turbine _) | some .bypass => 1

/-- Of two entries, the one due first; ties go to the lower number (R170). -/
def dueFirst (e f : Station) : Station :=
  if f.due < e.due ∨ (f.due = e.due ∧ f.number < e.number) then f else e

/-- The entry whose POLL is due first, among those due at or before an uptime (R170). -/
def earliestDue (stations : List Station) (uptime : Nat) : Option Station :=
  match stations.filter fun e => decide (e.due ≤ uptime) with
  | [] => none
  | e :: es => some (es.foldl dueFirst e)

namespace Block

/-- The payload of a POLL, from the owner of the station's role as it stands (R164). -/
def pollPayload (b : Block) (r : Option Role) : List Byte :=
  match r with
  | some (.feeder l) => u8 (b.line l).gfu.command.code
  | some (.dosing l) => u16 (b.line l).ccu.demand
  | some (.turbine t) => u16 (b.turbine t).setpoint
  | some .bypass => u16 b.blu.setpoint
  | some (.furnace _) | some (.analyzerA _) | some (.analyzerB _) | some .header | none => []

/-! ## Grants (R166, R170) -/

/-- A frame granted: built and sent, the driver enable asserted, with the turnaround and response timeout
in force at the grant (R161, R166). -/
def send (b : Block) (t : Transaction) (payload : List Byte) : Block :=
  b.modBus fun x =>
    { x with state := .sending
             driver := true
             txn := some { t with frame := stationFrame t.address t.command payload
                                  turnaround := b.cmc.params.bus.turnaround
                                  timeout := b.cmc.params.bus.responseTimeout } }

/-- A transaction before its frame is built. -/
def newTxn (command : FrameCommand) (address expected : Nat) (kind : Option StationKind) (entryHeld : Bool)
    (bits : List Bool) : Transaction :=
  ⟨command, address, expected, kind, entryHeld, bits, [], 0, 0, []⟩

/-- A queued frame granted (R169, R170): it leaves the queue. What a walk in WAIT_ROOM does at that moment (R180)
is `Block.grantMoment`'s. -/
def grantQueued (b : Block) (u : Unanswered) (rest : List Unanswered) : Block :=
  (b.modBus fun x => { x with queue := rest }).send
    (newTxn (if u.forget then .forget else .clear) u.address u.address none false []) []

/-- A POLL granted (R164, R171): the due time advances by the period from its previous value, also past the last
uptime, which R171 does not say: DESIGN CHOICE (notes/assumptions/56.md). -/
def grantPoll (b : Block) (e : Station) : Block :=
  (b.send (newTxn .poll e.number e.number (kindOf e.ident.kind) true []) (b.pollPayload e.role)).modStation
    e.number fun x => { x with due := x.due + e.period }

/-- The walk's frame granted, if it has one ready (R178, R180). -/
def grantWalk (b : Block) : Block :=
  let w := b.bus.walk
  if !w.active then b
  else
    match w.step, w.stack, w.candidate with
    | .rollCall, p :: ps, _ =>
      (b.modWalk fun w => { w with stack := ps }).send (newTxn .rollCall 0 0 none false p)
        (u8 p.length ++ prefixBytes p)
    | .assign, _, some c =>
      (b.modWalk fun w => { w with candidate := some { c with attempts := c.attempts + 1 } }).send
        (newTxn .assign 0 c.number none false []) (encIdent c.ident ++ u8 c.number)
    | _, _, _ => b

/-- One frame granted, or none if none is ready (R170). -/
def grantFrame (b : Block) : Block :=
  match b.bus.queue with
  | u :: rest => b.grantQueued u rest
  | [] =>
    match earliestDue b.bus.stations b.clock.uptime with
    | some e => b.grantPoll e
    | none => b.grantWalk

/-- The arbiter (R170), with the bus FREE. -/
def grant (b : Block) : Block := if b.bus.state = .free then b.grantFrame else b

/-- The last stop bit of a frame (R166): the turnaround begins, with the driver enable held. -/
def frameSent (b : Block) : Block :=
  if b.bus.state = .sending then b.modBus fun x => { x with state := .turnaround } else b

/-- The bus becomes FREE: the transaction ends, and the baud in force follows its parameter (R161). -/
def freeBus (b : Block) : Block :=
  b.modBus fun x => { x with state := .free, txn := none, baud := b.cmc.params.bus.baud }

/-! ## Answers (R167, R168) -/

end Block

/-- The data of the characters received. -/
def answerBytes (cs : List BusChar) : List Byte := cs.map BusChar.data

/-- The payload of a whole answer: what follows address, command and length, without the CRC. -/
def answerPayload (cs : List BusChar) : List Byte :=
  ((answerBytes cs).drop 3).take (byteAt (answerBytes cs) 2).toNat

/-- Checks 5 and 6 of R167 on a whole answer of payload length `n`. -/
def wholeAnswer (t : Transaction) (bs : List Byte) (n : Nat) : PollOutcome :=
  if bs.drop (n + 3) ≠ crcBytes (bs.take (n + 3)) then .bad
  else if byteAt bs 1 ≠ t.command.byte then .bad
  else
    match t.command, t.kind with
    | .assign, _ => if n = 0 then .good else .bad
    | .poll, some k => if replyFits k ((bs.drop 3).take n) then .good else .bad
    | _, _ => .bad

/-- The checks of R167 on the characters received so far: the outcome, if they decide one. -/
def checkAnswer (t : Transaction) (cs : List BusChar) : Option PollOutcome :=
  match cs with
  | [] => none
  | c :: rest =>
    if c.framing then some .bad
    else if !(c.flag && c.data == byte (0x80 + t.expected)) then some .crossed
    else if rest.any fun x => x.framing || x.flag then some .bad
    else
      match rest with
      | _ :: len :: tail =>
        if 32 < len.data.toNat then some .bad
        else if tail.length < len.data.toNat + 2 then none
        else some (wholeAnswer t (answerBytes cs) len.data.toNat)
      | _ => none

/-- What everything received in a ROLL CALL window forms (R168): exactly one IDENT reply, or not. -/
def rollAnswer (cs : List BusChar) : RollOutcome :=
  match cs with
  | [] => .silent
  | c :: rest =>
    let bs := answerBytes cs
    if !c.framing && c.flag && c.data == 0xFF && (!rest.any fun x => x.framing || x.flag) &&
        bs.length == 11 && byteAt bs 1 == 0x02 && byteAt bs 2 == 6 && bs.drop 9 == crcBytes (bs.take 9) then
      .clean (decIdent ((bs.drop 3).take 6))
    else .garbled

namespace Block

/-- An outcome of a POLL or an ASSIGN decided (R166, R167): after GOOD and MISS the bus is FREE, after
CROSSED and BAD it settles; the outcome goes to the station's health, or to the walk. -/
def decideAnswer (b : Block) (t : Transaction) (o : PollOutcome) (payload : List Byte) : Block :=
  let b1 :=
    match o with
    | .good | .miss => b.freeBus
    | .crossed | .bad => b.modBus fun x => { x with state := .settling }
  match t.command with
  | .poll => if t.entryHeld then b1.pollOutcome t.expected o payload else b1
  | .assign => b1.assignOutcome o
  | .rollCall | .clear | .forget => b1

/-- The characters received so far kept; the bus is RECEIVING from the first. -/
def keepAnswer (b : Block) (t : Transaction) (cs : List BusChar) : Block :=
  b.modBus fun x => { x with state := .receiving, txn := some { t with answer := cs } }

/-- A character of an answer, in WAITING or RECEIVING. -/
def answerChar (b : Block) (t : Transaction) (c : BusChar) : Block :=
  let cs := t.answer ++ [c]
  let b1 := b.keepAnswer t cs
  match t.command with
  | .clear | .forget => b
  | .rollCall => b1
  | .poll | .assign =>
    match checkAnswer t cs with
    | none => b1
    | some o => b1.decideAnswer t o (answerPayload cs)

/-- A character on the bus (R160, R166, R167): ignored while the part drives, stray with the bus FREE,
discarded while SETTLING. -/
def busChar (b : Block) (c : BusChar) : Block :=
  if b.bus.driver then b
  else
    match b.bus.state, b.bus.txn with
    | .free, _ => b.modBus fun x => { x with stray := satAdd Config.max16 x.stray 1 }
    | .waiting, some t | .receiving, some t => b.answerChar t c
    | _, _ => b

end Block

/-! ## Commands -/

/-- STATION_FRAME_SENT (R166): the driver enable is held for the turnaround. -/
def execStationFrameSent (s : State) : Host.Outcome State Fault Refusal := s.onBlock Block.frameSent

/-- TURNAROUND_END (R166): the driver enable is released. -/
def execTurnaroundEnd (s : State) : Host.Outcome State Fault Refusal :=
  s.onBlock fun b =>
    if b.bus.state = .turnaround then b.modBus fun x => { x with state := .waiting, driver := false } else b

/-- The command of the transaction in flight is one of those given. -/
def Block.txnIs (b : Block) (cs : List FrameCommand) : Bool :=
  match b.bus.txn with
  | some t => cs.contains t.command
  | none => false

/-- UNANSWERED_FRAME_END (R166). -/
def execUnansweredFrameEnd (s : State) : Host.Outcome State Fault Refusal :=
  s.onBlock fun b => if b.bus.state = .waiting ∧ b.txnIs [.clear, .forget] = true then b.freeBus else b

/-- STATION_CHAR_RECEIVED (R167). -/
def execStationCharReceived (c : BusChar) (s : State) : Host.Outcome State Fault Refusal :=
  s.onBlock fun b => b.busChar c

/-- STRAY_CHARACTER (R160): a character received while the bus is FREE; in any other state it is a
character like another. -/
def execStrayCharacter (c : BusChar) (s : State) : Host.Outcome State Fault Refusal :=
  s.onBlock fun b => b.busChar c

/-- An outcome decided for the transaction in flight without a further character. -/
def Block.decideNow (b : Block) (o : PollOutcome) : Block :=
  match b.bus.txn with
  | some t => b.decideAnswer t o []
  | none => b

/-- RESPONSE_TIMEOUT (R167, check 1): no character has begun, so the outcome is MISS. The window of a
ROLL CALL ends at ROLL_CALL_WINDOW_END. -/
def execResponseTimeout (s : State) : Host.Outcome State Fault Refusal :=
  s.onBlock fun b =>
    if b.bus.state = .waiting ∧ b.txnIs [.poll, .assign] = true then b.decideNow .miss else b

/-- ANSWER_GAP_TIMEOUT (R167, check 4): a gap of more than 2 character times within an answer. -/
def execAnswerGapTimeout (s : State) : Host.Outcome State Fault Refusal :=
  s.onBlock fun b =>
    if b.bus.state = .receiving ∧ b.txnIs [.poll, .assign] = true then b.decideNow .bad else b

/-- SETTLE_END (R167). -/
def execSettleEnd (s : State) : Host.Outcome State Fault Refusal :=
  s.onBlock fun b => if b.bus.state = .settling then b.freeBus else b

/-- The end of a ROLL CALL's window (R168): the outcome goes to the walk (R178). -/
def Block.endWindow (b : Block) : Block :=
  match b.bus.txn with
  | some t =>
    if (b.bus.state = .waiting ∨ b.bus.state = .receiving) ∧ t.command = .rollCall then
      b.freeBus.rollOutcome t.bits (rollAnswer t.answer)
    else b
  | none => b

/-- ROLL_CALL_WINDOW_END (R168). -/
def execRollCallWindowEnd (s : State) : Host.Outcome State Fault Refusal := s.onBlock Block.endWindow

end Sys2Proof.Machine
end

