-- ==== Sys2Proof/Machine/Link.lean ====
section
/-! DEFINITION. The host link's record (chapter 11): the assembler and its errors (R192), RDYO (R193),
starting a message (R193), the gap (R192), and the link reset's part of the record (R200, R206). -/

namespace Sys2Proof.Machine
open Sys2Proof

/-- Causes of LINK_ERROR, in the order of R202. -/
inductive LinkErrorCause where
  | stray | gap | crc | overrun
deriving DecidableEq, Repr

def LinkErrorCause.code : LinkErrorCause → Nat
  | .stray => 0
  | .gap => 1
  | .crc => 2
  | .overrun => 3

/-- A counter increased, saturating (R190). -/
def Link.count (k : Link) (c : LinkErrorCause) (n : Nat) : Link :=
  match c with
  | .stray => { k with stray := satAdd Config.max16 k.stray n }
  | .gap => { k with gap := satAdd Config.max16 k.gap n }
  | .crc => { k with crc := satAdd Config.max16 k.crc n }
  | .overrun => { k with overrun := satAdd Config.max16 k.overrun n }

/-- Bytes held in the inbound buffer (R190, R193): complete requests and the frame in assembly. -/
def Link.held (k : Link) : Nat := (k.requests.map Request.size).sum + k.assembly.length

/-- RDYO evaluated (R193): between its two levels it keeps its level, so that where a byte and a request leaving
meet, the level after both can rest on their order (R201's last row: DEDUCED, notes/assumptions/44.md). Once the
DONE of a RESTART has been sent it stays deasserted until the ready point (R199). -/
def Link.evalRdyo (k : Link) : Link :=
  if k.restartDue then { k with rdyo := false }
  else if Config.rdyoHigh ≤ k.held then { k with rdyo := false }
  else if k.held ≤ Config.rdyoLow then { k with rdyo := true }
  else k

/-- A byte stored in the frame in assembly. -/
def Link.store (k : Link) (v : Byte) (st : Assembler) : Link :=
  { k with assembly := k.assembly ++ [v], assembler := st }.evalRdyo

/-- The frame in assembly discarded (R192). -/
def Link.discard (k : Link) : Link := { k with assembly := [], assembler := .hunt }.evalRdyo

/-- The length N of the frame in assembly. -/
def Link.frameLength (k : Link) : Nat := (byteAt k.assembly 1).toNat

/-- The request a whole frame carries, none where its CRC does not match (R191, R192). -/
def requestOf (frame : List Byte) : Option Request :=
  let n := (byteAt frame 1).toNat
  let core := (frame.drop 1).take (n + 1)
  if frame.drop (n + 2) = crcBytes core then some ⟨byteAt frame 2, byteAt frame 3, core.drop 3⟩ else none

/-- A request complete at the end of the inbound buffer, out of the frame in assembly (R192). -/
def Link.complete (k : Link) (r : Request) : Link :=
  { k with assembly := [], assembler := .hunt, requests := k.requests ++ [r] }.evalRdyo

/-- The receiver takes bytes: it is on, and the line is not held low since a link reset (R190, R200). -/
def Link.takes (k : Link) : Bool := k.receiver && !k.lineLow

namespace Block

/-- An error counted, with LINK_ERROR (R192), also where the counter stands at 65535 already: DEDUCED
(notes/assumptions/45.md). -/
def linkError (b : Block) (c : LinkErrorCause) (n : Nat) : Block :=
  (b.modLink fun k => k.count c n).raise .linkError 0 (u8 c.code)

/-- A byte that finds the inbound buffer full (R192). -/
def byteWhenFull (b : Block) (v : Byte) : Block :=
  if b.link.assembler = .hunt ∧ v ≠ 0xC3#8 then b.linkError .stray 1
  else (b.modLink Link.discard).linkError .overrun 1

/-- The last CRC byte has been stored: the frame is checked (R192). -/
def checkFrame (b : Block) : Block :=
  match requestOf b.link.assembly with
  | some r => b.modLink fun k => k.complete r
  | none => (b.modLink Link.discard).linkError .crc 1

/-- A byte taken by the assembler (R192). -/
def assemble (b : Block) (v : Byte) : Block :=
  match b.link.assembler with
  | .hunt => if v = 0xC3#8 then b.modLink fun k => k.store v .length else b.linkError .stray 1
  | .length =>
    if 2 ≤ v.toNat ∧ v.toNat ≤ 250 then b.modLink fun k => k.store v .body
    else (b.modLink Link.discard).linkError .stray 2
  | .body =>
    b.modLink fun k => k.store v (if k.assembly.length + 1 = k.frameLength + 2 then .crc else .body)
  | .crc =>
    let b1 := b.modLink fun k => k.store v .crc
    if b1.link.assembly.length = b1.link.frameLength + 4 then b1.checkFrame else b1

/-- A byte at its arrival, before any request it completes is taken. -/
def receive (b : Block) (v : Byte) : Block :=
  if !b.link.takes then b
  else if Config.inboundSize ≤ b.link.held then b.byteWhenFull v
  else b.assemble v

/-- The gap time of the frame in assembly expires (R192). -/
def gapExpired (b : Block) : Block :=
  if b.link.assembler = .hunt then b else (b.modLink Link.discard).linkError .gap 1

/-- HRDY is found asserted (R193): the oldest message waiting is started. -/
def startMessage (b : Block) : Block :=
  if b.link.outbound = [] then b else b.modLink fun k => { k with sending := true }

/-- One more byte of the message being sent has left the outbound buffer (R193); its last byte leaves at
MESSAGE_SENT. -/
def sendByte (b : Block) : Block :=
  if b.link.sending = true ∧ b.link.sent + 1 < (b.link.outbound.headD []).length then
    b.modLink fun k => { k with sent := k.sent + 1 }
  else b

/-- The part idling: an instant's commands are over, the closes put off in it are taken (notes/assumptions/49.md), a
rundown of a limit that waits is taken (R108, notes/assumptions/48.md), and of a message being sent one more byte leaves (R193, notes/assumptions/9.md). -/
def idleStep (b : Block) : Block := b.takeLate.takeLimits.sendByte

/-- Every pending entry above the floor becomes owed (R206). -/
def oweAll (b : Block) : Block :=
  b.modNotices fun es => es.map fun e => if b.aboveFloor e.kind then { e with owed := true } else e

/-- The link record at a link reset (R190, R200), before the notices. With a restart pending its full reset
follows, and RDYO is not asserted (R199). -/
def resetLink (b : Block) : Block :=
  b.modLink fun k =>
    { k with assembler := .hunt, assembly := [], requests := [], outbound := [], sending := false, sent := 0
             stray := 0, gap := 0, crc := 0, overrun := 0
             lineLow := true
             rdyo := !k.restarting
             restartPending := false
             restartDue := k.restarting }

/-- A link reset (R200, R206); none is taken before the ready point. -/
def linkReset (b : Block) : Block := if b.ready then b.resetLink.oweAll.sendOwed else b

end Block

/-! ## Commands that complete no request -/

/-- HOST_GAP_TIMEOUT (R192). -/
def execHostGapTimeout (s : State) : Host.Outcome State Fault Refusal := s.onBlock Block.gapExpired

/-- LINK_RESET (R200). -/
def execLinkReset (s : State) : Host.Outcome State Fault Refusal := s.onBlock Block.linkReset

/-- HRXD_RETURNED_HIGH (R200). -/
def execHrxdReturnedHigh (s : State) : Host.Outcome State Fault Refusal :=
  s.onBlock fun b => b.modLink fun k => { k with lineLow := false }

/-- HRDY_ASSERTED (R193). -/
def execHrdyAsserted (s : State) : Host.Outcome State Fault Refusal := s.onBlock Block.startMessage

end Sys2Proof.Machine
end

