-- ==== Sys2Proof/Machine/LineRequests.lean ====
section
/-! DEFINITION. The owners' action on the requests about lines (R5, R6, R15, R16, R19, R20) and on
ALLOWANCE RESTORE (R113). Each gives the part after the request and the reply. -/

namespace Sys2Proof.Machine
open Sys2Proof
namespace Block

/-- A DONE reply with a line's state. -/
def lineDone (b : Block) (l : LineId) : Block × Reply := (b, .done (u8 (b.line l).lsc.state.code))

/-- The first unmet start prerequisite (R5). -/
def startUnmet (b : Block) (l : LineId) : Option NotReadyDetail :=
  if !b.running then some .clock
  else if !b.allowanceRestored l then some .allowance
  else if !b.bound (.feeder l) then some .feederRole
  else if !b.bound (.furnace l) then some .furnaceRole
  else if !b.bound (.dosing l) then some .dosingRole
  else if !b.bound (.analyzerA l) && !b.bound (.analyzerB l) then some .analyzerRole
  else none

/-- LINE START (R5). -/
def serveLineStart (b : Block) (l : LineId) : Block × Reply :=
  match (b.line l).lsc.state with
  | .idle =>
    match b.startUnmet l with
    | some d => (b, notReady d)
    | none => (b.enterWarmup l false).lineDone l
  | .warmup | .firing | .hold => b.lineDone l
  | .rundown => (b, refuse .wrongState)

/-- The refusal of a return to service from RUNDOWN, if one applies (R15). -/
def returnRefused (b : Block) (l : LineId) : Option RefusalCode :=
  if b.feedStop then some .inhibited
  else if (b.line l).lsc.cause = .episodeLimit ∧ (b.line l).dau.episode.isSome = true then some .causeOpen
  else if (b.line l).lsc.cause = .allowance ∧ Config.allowance ≤ (b.line l).dau.used then some .exhausted
  else none

/-- LINE FEED (R6, R15). -/
def serveLineFeed (b : Block) (l : LineId) : Block × Reply :=
  match (b.line l).lsc.state with
  | .idle => (b, refuse .wrongState)
  | .warmup =>
    if b.feedStop then (b, refuse .inhibited)
    else (b.modLsc l fun x => { x with feedRequested := true }).lineDone l
  | .firing | .hold => b.lineDone l
  | .rundown =>
    match b.returnRefused l with
    | some c => (b, refuse c)
    | none => (b.enterWarmup l true).lineDone l

/-- LINE STOP (R16). -/
def serveLineStop (b : Block) (l : LineId) : Block × Reply :=
  match (b.line l).lsc.state with
  | .idle | .rundown => b.lineDone l
  | .warmup => (b.enterIdle l).lineDone l
  | .firing | .hold => (b.enterRundown l .host).lineDone l

/-- LINE CEILING (R19). -/
def serveLineCeiling (b : Block) (l : LineId) (value : Nat) : Block × Reply :=
  let v := min value Config.maxLoad
  (b.setHostCeiling l v, .done (u16 v))

/-- LINE DECLARE (R20): action 0 is SET, 1 CLEAR. -/
def serveLineDeclare (b : Block) (l : LineId) (set : Bool) : Block × Reply :=
  let b1 := b.setCause l .declared set
  (b1, .done (u8 (b1.line l).dau.causes.bits))

/-- The refusal of an ALLOWANCE RESTORE, if one applies (R113). -/
def restoreRefused (b : Block) (l : LineId) (year : Nat) : Option Reply :=
  match b.clock.time with
  | none => some (notReady .clock)
  | some t =>
    if !b.idle l then some (refuse .wrongState)
    else if year ≠ t.year then some (refuse .wrongYear)
    else none

/-- The figures an accepted ALLOWANCE RESTORE writes (R113, R80). -/
def restoreFigures (b : Block) (l : LineId) (year used : Nat) (tallies : PerPollutant Nat) : Block :=
  (b.modDau l fun d => { d with used := used, restored := true, restoredYear := some year }).modEau l
    fun e => { e with tallies := tallies }

/-- ALLOWANCE RESTORE (R113). A tally of two bytes lies in its range, so its clamp leaves it. Closes that were put off
are taken before the figures are written, so that no close of the year before writes over them (R79, R111,
notes/assumptions/49.md). The reply carries the restored year, which every such reply has, with no presence byte:
DEDUCED (notes/assumptions/27.md). -/
def serveAllowanceRestore (b : Block) (l : LineId) (year used : Nat) (tallies : PerPollutant Nat) :
    Block × Reply :=
  match b.restoreRefused l year with
  | some r => (b, r)
  | none =>
    let u := min used Config.allowance
    let t : PerPollutant Nat := .tabulate fun x => min (tallies.get x) Config.max16
    let b1 := b.takeLate.restoreFigures l year u t
    (if Config.allowanceLow ≤ u then b1.raiseLine .allowanceLow l (u16 u) else b1,
      .done (u16 u ++ t.toList.flatMap u16 ++ u16 year))

end Block

end Sys2Proof.Machine
end

