-- ==== Sys2Proof/Machine/TurbineRequests.lean ====
section
/-! DEFINITION. The TDU's action on the requests about turbines (R146, R148, R152) and the dispatch
schedule (R138, R139). -/

namespace Sys2Proof.Machine
open Sys2Proof
namespace Block

/-- A DONE reply with a turbine's state. -/
def turbineDone (b : Block) (t : TurbineId) : Block × Reply := (b, .done (u8 (b.turbine t).state.code))

/-- The first unmet prerequisite of TURBINE START (R146). -/
def runupUnmet (b : Block) (t : TurbineId) : Option Reply :=
  if !b.bound (.turbine t) then some (refuse .unbound)
  else if !b.healthy (.turbine t) then some (notReady .lost)
  else if (b.turbine t).tripInput then some (refuse .inhibited)
  else none

/-- TURBINE START (R146). -/
def serveTurbineStart (b : Block) (t : TurbineId) : Block × Reply :=
  match (b.turbine t).state with
  | .offline =>
    match b.runupUnmet t with
    | some r => (b, r)
    | none => (b.modTurbine t fun x => { x with state := .runup, runup := 0, qual := 0 }).turbineDone t
  | .runup | .online => b.turbineDone t
  | .unloading | .tripped => (b, refuse .wrongState)

/-- TURBINE STOP (R148). -/
def serveTurbineStop (b : Block) (t : TurbineId) : Block × Reply :=
  match (b.turbine t).state with
  | .runup | .online =>
    (b.modTurbine t fun x =>
      { x with state := .unloading, runup := 0, qual := 0, frozen := false }).turbineDone t
  | .offline | .unloading | .tripped => b.turbineDone t

/-- TRIP RESET is accepted (R152): TRIPPED, the trip input released, and the speed known to be low. -/
def resetAllowed (b : Block) (t : TurbineId) : Bool :=
  let x := b.turbine t
  x.state == .tripped && !x.tripInput &&
    (x.speed.status == .stopped ||
      (x.speed.status == .valid && decide (x.speed.rpm * 10 < (b.turbineParams t).ratedSpeed)))

/-- TRIP RESET (R152). -/
def serveTripReset (b : Block) (t : TurbineId) : Block × Reply :=
  if b.resetAllowed t then (b.modTurbine t fun x => { x with state := .offline }).turbineDone t
  else (b, refuse .wrongState)

end Block

/-! ## The schedule (R138, R139) -/

/-- An entry inserted after every earlier one and before every later one (R138). -/
def insertSched (e : SchedEntry) : List SchedEntry → List SchedEntry
  | [] => [e]
  | f :: fs => if f.time.before e.time then f :: insertSched e fs else e :: f :: fs

/-- The queue after an accepted SCHEDULE ADD, with whether it replaced an entry; none where it is FULL. -/
def schedAdd (q : List SchedEntry) (e : SchedEntry) : Option (List SchedEntry × Bool) :=
  if q.any fun f => f.time == e.time then some (q.map fun f => if f.time = e.time then e else f, true)
  else if q.length < Config.queueSize then some (insertSched e q, false)
  else none

/-- An entry as SCHEDULE LIST carries it. -/
def SchedEntry.encode (e : SchedEntry) : List Byte := encEffTime e.time ++ u16 e.p ++ u16 e.h

namespace Block

/-- SCHEDULE ADD (R138). -/
def serveScheduleAdd (b : Block) (t : EffTime) (p h : Nat) : Block × Reply :=
  if !t.valid then (b, refuse .range)
  else
    let e : SchedEntry := ⟨t, min p 1000, min h 600⟩
    match schedAdd b.tdu.queue e with
    | none => (b, refuse .full)
    | some (q, replaced) =>
      (b.modTdu fun x => { x with queue := q },
        .done (u8 (if replaced then 0 else 1) ++ e.encode ++ u8 q.length))

/-- SCHEDULE CANCEL (R139). -/
def serveScheduleCancel (b : Block) (t : EffTime) : Block × Reply :=
  if !t.valid then (b, refuse .range)
  else
    let q := b.tdu.queue.filter fun e => e.time.before t
    (b.modTdu fun x => { x with queue := q },
      .done (u8 (b.tdu.queue.length - q.length) ++ u8 q.length))

/-- The commitment as SCHEDULE LIST and STATUS PLANT carry it (R139, R159). -/
def commitmentFields (b : Block) : List Byte :=
  let c := b.tdu.commitment
  u16 c.p ++ u16 c.h ++ optional 6 encEffTime c.time ++ encStamp? c.applied

/-- SCHEDULE LIST (R139). -/
def serveScheduleList (b : Block) : Block × Reply :=
  (b, .done (b.tdu.queue.flatMap SchedEntry.encode ++ b.commitmentFields ++
    u16 b.tdu.commitment.superseded))

end Block

end Sys2Proof.Machine
end

