-- ==== Sys2Proof/Machine/StationRequests.lean ====
section
/-! DEFINITION. The SBM's action on the STATION requests (R184 to R188). -/

namespace Sys2Proof.Machine
open Sys2Proof

/-- States of a station, as R175 lists them. -/
inductive StationState where
  | enrolled | bound | lost
deriving DecidableEq, Repr

def StationState.code : StationState → Nat
  | .enrolled => 0
  | .bound => 1
  | .lost => 2

/-- The return state of an entry (R175). -/
def Station.returnState (e : Station) : StationState := if e.returnBound then .bound else .enrolled

/-- The state of an entry (R175): BOUND while a role names it, unless LOST. -/
def Station.state (e : Station) : StationState :=
  if e.lost then .lost else if e.role.isSome then .bound else .enrolled

/-- An entry as STATION LIST carries it, 25 bytes (R198). -/
def Station.encode (e : Station) : List Byte :=
  u8 e.number ++ encIdent e.ident ++ u8 e.state.code ++ u8 e.returnState.code ++
    optional 1 (fun r => u8 (Role.index r)) e.role ++ u8 e.misses ++
    u16 e.good ++ u16 e.miss ++ u16 e.crossed ++ u16 e.bad ++ encStamp e.lastGood

/-- The last walk as STATION LIST carries it. -/
def LastWalk.encode (w : LastWalk) : List Byte :=
  u8 w.reason.code ++ u8 w.found ++ u8 w.dropped ++ u8 w.duplicates

namespace Block

/-- A walk begun (R177). -/
def beginWalk (b : Block) (origin : WalkOrigin) : Block := b.modWalk fun w => w.begin origin

/-- STATION ENROL (R184). -/
def serveStationEnrol (b : Block) : Block × Reply :=
  if b.bus.walk.active then (b, refuse .busy) else (b.beginWalk .host, .done [])

/-- The reply of STATION BIND: the number, the role and the entry's state (R185). -/
def bindDone (b : Block) (number : Nat) (r : Role) : Reply :=
  .done (u8 number ++ u8 r.index ++ u8 ((b.station number).map (·.state.code) |>.getD 0))

/-- STATION BIND (R185). The reply for a role already bound to the entry carries the fields of a binding made, which
R185 does not say: DEDUCED (notes/assumptions/54.md). -/
def serveStationBind (b : Block) (number : Nat) (r : Role) : Block × Reply :=
  match b.station number with
  | none => (b, refuse .noSuch)
  | some e =>
    if kindOf e.ident.kind ≠ some r.kind then (b, refuse .kindMismatch)
    else if !b.stateRule r then (b, refuse .wrongState)
    else if e.role = some r then (b, b.bindDone number r)
    else if b.bound r || e.role.isSome then (b, refuse .roleTaken)
    else
      let b1 := b.bindRole e r
      (b1, b1.bindDone number r)

/-- STATION UNBIND (R186). For a role already unbound the number in the reply is 0, as STATION LIST
gives an unbound role. -/
def serveStationUnbind (b : Block) (r : Role) : Block × Reply :=
  match b.holder r with
  | none => (b, .done (u8 0))
  | some e =>
    if !b.stateRule r then (b, refuse .wrongState)
    else if b.queueRoom = 0 then (b, refuse .busy)
    else ((b.enqueue ⟨false, e.number⟩).unbindRole e r, .done (u8 e.number))

/-- The entry of a number removed from the table and the poll list (R187); the outcome of a transaction
in flight to it is to be discarded (R174). -/
def removeStation (b : Block) (n : Nat) : Block :=
  b.modBus fun x =>
    { x with stations := x.stations.filter fun e => e.number != n
             txn := x.txn.map fun t => if t.expected = n then { t with entryHeld := false } else t }

/-- The state rule of the role an entry holds, if it holds one (R187, test 2). -/
def forgetAllowed (b : Block) (e : Station) : Bool :=
  match e.role with
  | some r => b.stateRule r
  | none => true

/-- An accepted STATION FORGET (R187). -/
def forgetStation (b : Block) (e : Station) : Block :=
  let b1 :=
    match e.role with
    | some r => ((b.enqueue ⟨false, e.number⟩).enqueue ⟨true, e.number⟩).unbindRole e r
    | none => b.enqueue ⟨true, e.number⟩
  b1.removeStation e.number

/-- STATION FORGET (R187). -/
def serveStationForget (b : Block) (number : Nat) : Block × Reply :=
  match b.station number with
  | none => (b, refuse .noSuch)
  | some e =>
    if !b.forgetAllowed e then (b, refuse .wrongState)
    else if b.queueRoom < (if e.role.isSome then 2 else 1) then (b, refuse .busy)
    else (b.forgetStation e, .done (u8 e.number ++ encIdent e.ident))

/-- The walk status of STATION LIST (R188). -/
def walkFields (b : Block) : List Byte :=
  let w := b.bus.walk
  flag w.active ++ optional 1 (fun o => u8 (WalkOrigin.code o)) w.origin ++ u8 w.stack.length ++
    u8 w.found ++ u8 w.dropped ++ u8 w.duplicates ++ optional 4 LastWalk.encode w.last

/-- STATION LIST (R188): up to 8 entries from a number upward. -/
def serveStationList (b : Block) (first : Nat) : Block × Reply :=
  let es := b.bus.stations.filter fun e => decide (first ≤ e.number)
  (b, .done ((es.take 8).flatMap Station.encode ++
    optional 1 (fun e => u8 (Station.number e)) (es.drop 8).head? ++
    allRoles.flatMap (fun r => u8 (((b.holder r).map Station.number).getD 0)) ++ b.walkFields))

end Block

end Sys2Proof.Machine
end

