-- ==== Sys2Proof/Machine/NoticeRequests.lean ====
section
/-! DEFINITION. The requests on notices (R205) and on the Record Store (R208). -/

namespace Sys2Proof.Machine
open Sys2Proof

/-! ## Notices (R205) -/

/-- The kinds a NOTICE CLEAR or NOTICE LIST names, none where the request is out of range: 0xFF is every
kind (R205). -/
def clearNames (kind subject : Nat) : Option (NoticeEntry → Bool) :=
  if kind = 0xFF then some fun _ => true
  else
    match noticeKindOf kind with
    | none => none
    | some k =>
      if subject = 0xFF then some fun e => e.kind == k
      else if k.subjectOk subject then some fun e => e.is k subject
      else none

/-- Entries of one kind, in table order. -/
def entriesOf (es : List NoticeEntry) (k : NoticeKind) : List NoticeEntry := es.filter fun e => e.kind == k

/-- The entries a NOTICE LIST sends, for whole kinds, and the kind at which it stopped (R205). -/
def listKinds (es : List NoticeEntry) : List NoticeKind → Nat → List NoticeEntry × Option NoticeKind
  | [], _ => ([], none)
  | k :: ks, places =>
    let here := entriesOf es k
    if here.length ≤ places then
      let r := listKinds es ks (places - here.length)
      (here ++ r.1, r.2)
    else ([], some k)

namespace Block

/-- An entry as NOTICE LIST carries it, 10 bytes. -/
def encodeEntry (b : Block) (e : NoticeEntry) : List Byte :=
  u8 e.kind.code ++ u8 e.subject ++ u8 (setBits [b.aboveFloor e.kind, e.owed]) ++ u8 e.count ++
    padDetail e.detail

/-- NOTICE LIST (R205). -/
def serveNoticeList (b : Block) (first : NoticeKind) : Block × Reply :=
  let r := listKinds b.notices.entries (allNoticeKinds.drop (first.code - 1)) 24
  (b, .done (u8 b.notices.floor ++ u8 (levelCode b.attn) ++
    optional 1 (fun k => u8 (NoticeKind.code k)) r.2 ++ r.1.flatMap b.encodeEntry))

/-- NOTICE CLEAR (R205). -/
def serveNoticeClear (b : Block) (kind subject : Nat) : Block × Reply :=
  match clearNames kind subject with
  | none => (b, refuse .range)
  | some p =>
    (b.modNotices fun es => es.filter fun e => !p e,
      .done (u8 (b.notices.entries.filter p).length))

/-- NOTICE FLOOR (R205). -/
def serveNoticeFloor (b : Block) (floor : Nat) : Block × Reply :=
  let f := min floor 3
  let b1 := { b with notices := { b.notices with floor := f } }.refloor b.aboveFloor
  (b1, .done (u8 f ++ u8 (levelCode b1.attn)))

end Block

/-! ## Records (R208) -/

/-- Steps forward from serial `x` to serial `s` in the serial sequence, where 1 follows 4294967295. -/
def serialSteps (x s : Nat) : Nat := (s + Config.maxSerial - x) % Config.maxSerial

/-- A serial is below another: 1 to 2147483647 steps forward reach it (R208). The serial 0 of a request
is no serial of the sequence, and none is below it. -/
def serialBelow (x s : Nat) : Bool :=
  s != 0 && decide (1 ≤ serialSteps x s) && decide (serialSteps x s ≤ 2147483647)

/-- The records left after those below a serial are removed from the front (R208). -/
def afterAcknowledge (rs : List StoredRecord) (s : Nat) : List StoredRecord :=
  rs.dropWhile fun r => serialBelow r.serial s

/-- The records a fetch returns: fewer than `n` added, and the next one fits in the room (R208). -/
def fetched : Nat → Nat → List StoredRecord → List StoredRecord
  | 0, _, _ => []
  | _ + 1, _, [] => []
  | n + 1, room, r :: rs =>
    if r.encode.length ≤ room then r :: fetched n (room - r.encode.length) rs else []

namespace Block

/-- RECORDS FETCH (R208). -/
def serveRecordsFetch (b : Block) (s n : Nat) : Block × Reply :=
  let rs := afterAcknowledge b.rcs.records s
  let sent := fetched n 238 rs
  ({ b with rcs := { b.rcs with records := rs } },
    .done (optional 4 (fun r => u32 (StoredRecord.serial r)) rs.head? ++ u8 rs.length ++
      u16 b.rcs.lossCount ++ u8 sent.length ++ sent.flatMap StoredRecord.encode))

end Block

end Sys2Proof.Machine
end

