-- ==== Sys2Proof/Machine/Cmc.lean ====
section
/-! DEFINITION. The Configuration Memory Controller (chapter 13): PARAM SET and PARAM GET (R210, R211),
the image (R212), its load (R213), and the save (R214, R215). -/

namespace Sys2Proof.Machine
open Sys2Proof
namespace Block

/-! ## PARAM SET and PARAM GET (R210, R211) -/

/-- What an owner does at the write of a parameter (R210): the deviation ceiling (R96), the bypass maximum
(R131), a notice class (R204), the baud (R161). -/
def afterWrite (old : Block) (n : ParamName) (b : Block) : Block :=
  match n with
  | .line l 19 => b.deviationCeilingWritten l
  | .plant 7 => b.bypassMaxWritten
  | .noticeClass _ _ => b.refloor old.aboveFloor
  | .bus 1 => if b.bus.state = .free then b.modBus fun x => { x with baud := b.cmc.params.bus.baud } else b
  | _ => b

/-- A parameter written (R210). -/
def writeParam (b : Block) (n : ParamName) (i : Item Params) (v : Nat) : Block :=
  afterWrite b n (b.modCmc fun c => { c with params := n.write i c.params v })

/-- The reply of PARAM SET and PARAM GET. -/
def paramDone (group inst item value : Nat) : Reply := .done (u8 group ++ u8 inst ++ u8 item ++ u32 value)

/-- PARAM SET (R210). -/
def serveParamSet (b : Block) (group inst item value : Nat) : Block × Reply :=
  match paramName group inst item with
  | none => (b, refuse .range)
  | some n =>
    match n.item with
    | none => (b, refuse .noSuch)
    | some i =>
      if n.isBasis && decide (1 < value) then (b, refuse .range)
      else if i.idle && !n.ownerIdle b then (b, refuse .wrongState)
      else (b.writeParam n i value, paramDone group inst item (n.stored i b.cmc.params value))

/-- PARAM GET (R211). -/
def serveParamGet (b : Block) (group inst item : Nat) : Block × Reply :=
  match paramName group inst item with
  | none => (b, refuse .range)
  | some n =>
    match n.item with
    | none => (b, refuse .noSuch)
    | some i => (b, paramDone group inst item (i.get b.cmc.params))

end Block

/-! ## The image (R212) -/

/-- A binding place: a presence byte and an identifier. An absent place holds six zero bytes after its presence byte,
which enter the CRC of the image: R212 does not say (DEDUCED, notes/assumptions/30.md). -/
def encPlace (i : Option StationId) : List Byte := optional 6 encIdent i

/-- The body of the image of a snapshot: the 137 values, then the 19 places. -/
def Snapshot.body (s : Snapshot) : List Byte := s.params.values.flatMap u32 ++ s.bindings.flatMap encPlace

/-- The CRC of a snapshot's body, as a number. -/
def Snapshot.crc (s : Snapshot) : Nat := (crc16 s.body).toNat

/-- The header of an image with a save mark. -/
def imageHeader (crc mark : Nat) : List Byte :=
  u16 Config.formatCode ++ u16 Config.bodyLength ++ u16 crc ++ u8 mark ++ u8 0

/-- The whole image of a snapshot. -/
def Snapshot.image (s : Snapshot) : List Byte := imageHeader s.crc 0 ++ s.body

/-- Bytes at rising addresses. -/
def cellsFrom (a : Nat) : List Byte → List (Nat × Byte)
  | [] => []
  | v :: vs => (a, v) :: cellsFrom (a + 1) vs

/-- The writes of a save in order (R214): the header with mark 1, the body, then the mark 0. -/
def Snapshot.writes (s : Snapshot) : List (Nat × Byte) :=
  cellsFrom 0 (imageHeader s.crc 1) ++ cellsFrom Config.headerLength s.body ++ [(6, byte 0)]

/-- The offset of the first byte that differs, none where all agree. -/
def firstDifference : Nat → List Byte → List Byte → Option Nat
  | _, [], _ => none
  | n, _ :: _, [] => some n
  | n, v :: vs, w :: ws => if v = w then firstDifference (n + 1) vs ws else some n

/-! ## The load (R213) -/

/-- What the load finds in the memory. -/
inductive LoadResult where
  | accepted (params : Params) (stored : List (Option StationId)) (crc : Nat)
  | absent
  | badCrc
deriving DecidableEq, Repr

/-- A binding place read back. A presence byte other than 1 is read as absent: DEDUCED
(notes/assumptions/30.md). -/
def decPlace (bs : List Byte) : Option StationId := if byteAt bs 0 = 1 then some (decIdent (bs.drop 1)) else none

/-- The image in a memory judged (R213). A save mark that is not 0 is judged as the mark 1: DEDUCED
(notes/assumptions/30.md). -/
def loadImage (m : List Host.Cell) : LoadResult :=
  let h := Memory.readRun m 0 Config.headerLength
  let body := Memory.readRun m Config.headerLength Config.bodyLength
  if field h 0 2 ≠ Config.formatCode ∨ field h 2 2 ≠ Config.bodyLength then .absent
  else if byteAt h 6 ≠ 0 ∨ field h 4 2 ≠ (crc16 body).toNat then .badCrc
  else
    .accepted (paramsOfImage ((List.range 137).map fun k => field body (4 * k) 4))
      ((List.range 19).map fun k => decPlace ((body.drop (548 + 7 * k)).take 7)) (field h 4 2)

/-- The load: an unanswering memory is as a blank one. -/
def loadMemory (answers : Bool) (m : List Host.Cell) : LoadResult :=
  if answers then loadImage m else .absent

namespace Block

/-- Defaults kept, stored bindings empty, source DEFAULTS, image CRC 0 (R213). -/
def defaulted (b : Block) : Block :=
  b.modCmc fun c =>
    { c with params := .default, stored := noBindings, source := .defaults, imageCrc := 0 }

/-- The parameter set, bindings, source and image CRC after the load (R213), with CONFIG raised where the
defaults are kept. -/
def applyLoad (b : Block) (r : LoadResult) : Block :=
  match r with
  | .accepted p stored crc =>
    b.modCmc fun c => { c with params := p, stored := stored, source := .image, imageCrc := crc }
  | .absent => b.defaulted.raise .config 0 (u8 0 ++ u8 0)
  | .badCrc => b.defaulted.raise .config 0 (u8 0 ++ u8 1)

/-! ## The save (R214, R215) -/

/-- The snapshot of a CONFIG SAVE (R214): a role bound to a LOST station keeps its identifier. -/
def snapshot (b : Block) : Snapshot :=
  ⟨b.cmc.params, allRoles.map fun r => (b.holder r).map Station.ident⟩

/-- CONFIG SAVE (R214). -/
def serveConfigSave (b : Block) : Block × Reply :=
  match b.cmc.save with
  | .idle => (b.modCmc fun c => { c with save := .writing, snapshot := some b.snapshot }, .done [])
  | .writing | .verifying => (b, refuse .busy)

/-- The whole image has been written (R214); `bad` are the cells that did not take their byte. -/
def writeDone (b : Block) (bad : List (Nat × Byte)) : Block :=
  match b.cmc.save, b.cmc.snapshot with
  | .writing, some s =>
    b.modCmc fun c =>
      { c with save := .verifying, memory := Memory.writeAll (Memory.writeAll c.memory s.writes) bad }
  | _, _ => b

/-- The image read back has been compared (R214). -/
def verifyDone (b : Block) : Block :=
  match b.cmc.save, b.cmc.snapshot with
  | .verifying, some s =>
    let b1 := b.modCmc fun c => { c with save := .idle, snapshot := none }
    match firstDifference 0 s.image (Memory.readRun b.cmc.memory 0 s.image.length) with
    | none =>
      (b1.modCmc fun c => { c with stored := s.bindings }).raise .config 0 (u8 1 ++ u16 s.crc)
    | some k => b1.raise .config 0 (u8 2 ++ u16 k)
  | _, _ => b

/-- The memory as a full reset leaves it (R215): of a save in WRITING, the writes made so far. -/
def memoryAtReset (b : Block) (written : Nat) : List Host.Cell :=
  match b.cmc.save, b.cmc.snapshot with
  | .writing, some s => Memory.writeAll b.cmc.memory (s.writes.take written)
  | _, _ => b.cmc.memory

end Block

/-- CONFIG_WRITE_DONE (R214). -/
def execConfigWriteDone (bad : List (Nat × Byte)) (s : State) : Host.Outcome State Fault Refusal :=
  s.onBlock fun b => b.writeDone bad

/-- CONFIG_VERIFY_DONE (R214). -/
def execConfigVerifyDone (s : State) : Host.Outcome State Fault Refusal := s.onBlock Block.verifyDone

end Sys2Proof.Machine
end

