-- ==== Sys2Proof/Machine/Status.lean ====
section
/-! DEFINITION. IDENT (R197) and the three STATUS replies (R198), with the fields of R22, R54, R81, R100,
R114, R158, R135 and R159 encoded under R196. -/

namespace Sys2Proof.Machine
open Sys2Proof

/-! ## STATUS LINE -/

/-- A furnace sample: value and status. -/
def FurnaceSample.encode (x : FurnaceSample) : List Byte := u16 x.temp ++ u8 x.status.code

/-- The line-sequence fields (R22). -/
def Lsc.fields (x : Lsc) (feedStop : Bool) : List Byte :=
  u8 x.state.code ++ flag x.feedRequested ++ u8 x.cause.code ++ u16 (condBits x.pendingConds) ++
    optional 3 FurnaceSample.encode x.sample ++ flag x.hot ++ u16 x.confirm ++ u16 x.hold ++
    u16 x.burnout ++ u8 (levelCode feedStop)

/-- The feed fields (R54); the stroke rate is shown as 0 outside FIRING (R39). -/
def Gfu.fields (g : Gfu) (firing : Bool) : List Byte :=
  u16 g.load ++ u16 g.target ++ u16 g.lastFiring ++ u32 (if firing then g.rate else 0) ++ u32 g.acc ++
    u8 g.phase.code ++ u16 g.age ++ flag g.owed ++ u8 g.command.code ++ u8 g.faults ++
    u16 g.completed ++ u16 g.dropped ++ u16 g.ramFaults ++ u32 g.fedMass ++ u16 g.lhv ++
    u8 g.estResult.code ++ u8 g.usable ++ optional 2 u16 g.lastRaw

/-- An analyzer role's flags. -/
def AnalyzerRole.fields (r : AnalyzerRole) : List Byte := flag r.bound ++ flag r.healthy ++ flag r.o2Fault

/-- A pollutant's last minute: status and Cn with OVER, absent where no minute has closed (R81). The status and Cn have
a presence byte each, and OVER is a byte with none, 0 where Cn is absent: DEDUCED (notes/assumptions/27.md). -/
def lastPol (m : Option PolMinute) : List Byte :=
  optional 1 u8 (m.map fun x => x.status.code) ++ optional 2 u16 (m.bind PolMinute.cn) ++
    flag (m.elim false PolMinute.overRange)

/-- The last minute (R81). -/
def Eau.lastFields (e : Eau) : List Byte :=
  allPollutants.flatMap (fun x => lastPol (e.last.map fun m => m.pol.get x)) ++
    optional 2 u16 (e.last.bind LastMinute.o2) ++ optional 2 u16 (e.last.bind LastMinute.h2o)

/-- The open half-hour: the counted minutes, and each pollutant's running mean and valid count (R81). -/
def Eau.halfHourFields (e : Eau) : List Byte :=
  u8 (countedSlots e.table).length ++
    allPollutants.flatMap fun x =>
      optional 2 u16 (runningMean e.table x).mean ++ u8 (runningMean e.table x).count

/-- The open day (R81). -/
def DayAcc.fields (d : DayAcc) : List Byte :=
  u8 d.complete ++ u8 d.partials ++ d.pol.toList.flatMap fun x => u8 x.valid ++ u8 x.invalid

/-- The emission fields (R81). -/
def Eau.fields (e : Eau) : List Byte :=
  u8 e.active.code ++ e.roleA.fields ++ e.roleB.fields ++ u16 e.switches ++
    e.samples.toList.flatMap (fun s => u32 (Samples.count s)) ++ e.lastFields ++ e.halfHourFields ++
    e.day.fields ++ e.tallies.toList.flatMap u16

/-- The binding term (R100): HOST, GUARD, REAGENT, DEVIATION, NONE. -/
def Ccu.bindingTerm (c : Ccu) : Nat :=
  if c.effective = Config.maxLoad then 4
  else if c.host = c.effective then 0
  else if c.guard = c.effective then 1
  else if c.reagent = c.effective then 2
  else if c.deviation = c.effective then 3
  else 4

/-- The cleaning fields (R100). -/
def Ccu.fields (c : Ccu) : List Byte :=
  u16 c.demand ++ u16 c.trim ++ optional 2 u16 c.acidIndex ++ optional 2 u16 c.actualRate ++
    flag c.dosingLost ++ flag c.dosingFault ++ u8 c.atMax ++ u16 c.host ++ u16 c.guard ++
    u16 c.reagent ++ u16 c.deviation ++ u16 c.effective ++ u8 c.bindingTerm ++
    u16 c.lowerings ++ u16 c.releases

/-- An open episode's fields (R114). -/
def Episode.fields (e : Episode) : List Byte :=
  encStamp e.openStamp ++ u8 e.minutes ++ u8 e.causesSeen.bits ++ u8 e.limit.code

/-- The last closed episode's fields (R114). -/
def LastClosed.fields (c : LastClosed) : List Byte := u8 c.reason.code ++ u8 c.minutes ++ encStamp c.stamp

/-- The deviation fields (R114). -/
def Dau.fields (d : Dau) (limit : Nat) : List Byte :=
  u8 d.causes.bits ++ optional 8 Episode.fields d.episode ++ u8 limit ++ u16 d.used ++
    u16 (Config.allowance - d.used) ++ flag d.restored ++ optional 2 u16 d.restoredYear ++
    u16 d.closed ++ optional 7 LastClosed.fields d.last

namespace Block

/-- STATUS LINE (R198). -/
def serveStatusLine (b : Block) (l : LineId) : Block × Reply :=
  let x := b.line l
  (b, .done (x.lsc.fields b.feedStop ++ x.gfu.fields (x.lsc.state == .firing) ++ x.eau.fields ++ x.ccu.fields ++
    x.dau.fields (b.lineParams l).episodeLimit))

end Block

/-! ## STATUS TURBINE -/

/-- The last trip (R158): NONE 0, INPUT 1, OVERSPEED 2, then the state before and the stamp. With NONE one byte 0
stands for the state before, with no presence byte, and the stamp is absent: DESIGN CHOICE
(notes/assumptions/47.md). -/
def lastTripFields : Option LastTrip → List Byte
  | none => u8 0 ++ u8 0 ++ encStamp? none
  | some t => u8 (t.cause.code + 1) ++ u8 t.before.code ++ encStamp t.stamp

/-- The station copy (R145). A valve position UNKNOWN is sent as an absent field: DEDUCED
(notes/assumptions/27.md). -/
def StationCopy.fields (c : StationCopy) : List Byte :=
  flag c.bound ++ flag c.healthy ++ optional 2 u16 c.valve ++ u8 c.breaker.code ++
    optional 1 (fun s => u8 (OkFault.code s)) c.status

/-- The fields of R158. -/
def Turbine.fields (x : Turbine) : List Byte :=
  u8 x.state.code ++ u8 x.mark.code ++ u16 x.targetBefore ++ u16 x.targetAfter ++ u16 x.setpoint ++
    flag x.frozen ++ u16 x.runup ++ u8 x.qual ++ u8 (levelCode x.tripInput) ++ lastTripFields x.lastTrip ++
    u16 x.trips ++ x.station.fields ++ u8 x.speed.status.code ++ u16 x.speed.rpm ++
    u8 x.speed.range.code ++ u8 x.speed.overCount

namespace Block

/-- STATUS TURBINE (R198, R158). -/
def serveStatusTurbine (b : Block) (t : TurbineId) : Block × Reply := (b, .done (b.turbine t).fields)

/-! ## STATUS PLANT -/

/-- A line's part of the balance fields (R135). Each of lo, hi, allocation and load target has a presence byte of its
own: DEDUCED (notes/assumptions/27.md). -/
def lineBalanceFields (b : Block) (l : LineId) : List Byte :=
  let c := b.blu.copies.get l
  let f := b.blu.figures.get l
  u8 c.state.code ++ u16 c.ceiling ++ optional 2 u16 c.steam ++ flag c.stale ++
    optional 4 u32 (f.map LineFigures.lo) ++ optional 4 u32 (f.map LineFigures.hi) ++
    optional 4 u32 (f.map LineFigures.alloc) ++ optional 2 u16 (f.map LineFigures.target)

/-- The balance fields (R135). The targets before and after cut are sent turbine by turbine, both of T1 and then both of
T2: DEDUCED (notes/assumptions/27.md). -/
def balanceFields (b : Block) : List Byte :=
  let x := b.blu
  let t1 := b.turbine .t1
  let t2 := b.turbine .t2
  encStamp? x.stamp ++ optional 2 u16 x.pressure ++ i32 x.trim ++ u32 x.uncontrolled ++
    i32 x.demand ++ i32 x.demandCut ++
    u16 t1.targetBefore ++ u16 t1.targetAfter ++ u16 t2.targetBefore ++ u16 t2.targetAfter ++
    u32 x.cut1 ++ u32 x.cut2 ++ u32 x.residual ++ u32 x.elShort ++ u32 x.heatShort ++
    allLines.flatMap b.lineBalanceFields ++
    u32 x.surplus ++ u16 x.target ++ u32 x.unabsorbed ++ u16 x.setpoint ++ optional 2 u16 x.flow ++
    flag x.short ++ flag x.saturated

/-- The dispatch fields (R159). -/
def dispatchFields (b : Block) : List Byte :=
  b.commitmentFields ++ u8 b.tdu.queue.length ++
    optional 6 encEffTime (b.tdu.queue.head?.map SchedEntry.time) ++ u16 b.tdu.commitment.superseded ++
    u32 b.tdu.elConv ++ u32 b.tdu.heatConv ++
    u8 (b.turbine .t1).state.code ++ u16 (b.turbine .t1).setpoint ++
    u8 (b.turbine .t2).state.code ++ u16 (b.turbine .t2).setpoint

/-- STATUS PLANT (R198). -/
def serveStatusPlant (b : Block) : Block × Reply :=
  let k := b.link
  (b, .done (b.balanceFields ++ b.dispatchFields ++ u16 b.bus.stray ++
    u16 k.stray ++ u16 k.gap ++ u16 k.crc ++ u16 k.overrun ++ u16 k.held ++ u16 b.outboundHeld))

/-! ## IDENT -/

/-- IDENT (R197). -/
def serveIdent (b : Block) : Block × Reply :=
  (b, .done (u16 0x0310 ++ u8 1 ++ u8 b.cause.code ++ u8 b.cmc.source.code ++ u16 b.cmc.imageCrc ++
    u32 b.link.baud))

end Block

end Sys2Proof.Machine
end

