-- ==== Sys2Proof/Machine/Requests.lean ====
section
/-! DEFINITION. Requests executed (R194, R195): the general tests, the owner of each kind, a request taken
and its reply placed, RESTART (R199), a byte that completes a request, a message leaving (R204), and the moment of
a grant, at which a request can be taken (R170, R180). -/

namespace Sys2Proof.Machine
open Sys2Proof
namespace Block

/-- A request whose first payload byte names a line (R194, test 3). -/
def onLine (b : Block) (p : List Byte) (f : LineId → Block × Reply) : Block × Reply :=
  match lineOf (field p 0 1) with
  | some l => f l
  | none => (b, refuse .range)

/-- A request whose first payload byte names a turbine. -/
def onTurbine (b : Block) (p : List Byte) (f : TurbineId → Block × Reply) : Block × Reply :=
  match turbineOf (field p 0 1) with
  | some t => f t
  | none => (b, refuse .range)

/-- A request whose payload names a station number at an offset. -/
def onStation (b : Block) (n : Nat) (f : Nat → Block × Reply) : Block × Reply :=
  if 1 ≤ n ∧ n ≤ Config.maxStation then f n else (b, refuse .range)

/-- A request that names a role index. -/
def onRole (b : Block) (n : Nat) (f : Role → Block × Reply) : Block × Reply :=
  match roleOf n with
  | some r => f r
  | none => (b, refuse .range)

/-- LINE DECLARE's action (R194): 0 SET, 1 CLEAR. -/
def serveDeclareAction (b : Block) (l : LineId) (action : Nat) : Block × Reply :=
  match action with
  | 0 => b.serveLineDeclare l true
  | 1 => b.serveLineDeclare l false
  | _ => (b, refuse .range)

/-- RESTART (R199). -/
def serveRestart (b : Block) : Block × Reply :=
  (b.modLink fun k => { k with restartPending := true }, .done [])

/-- NOTICE LIST's first kind (R205). -/
def serveListFrom (b : Block) (n : Nat) : Block × Reply :=
  match noticeKindOf n with
  | some k => b.serveNoticeList k
  | none => (b, refuse .range)

/-- The owner's action on a request whose kind and payload length have passed their tests. -/
def serveKind (b : Block) (k : ReqKind) (p : List Byte) : Block × Reply :=
  match k with
  | .ident => b.serveIdent
  | .clockSet => b.serveClockSet (field p 0 2) (field p 2 2) (field p 4 4)
  | .clockRead => b.serveClockRead
  | .paramSet => b.serveParamSet (field p 0 1) (field p 1 1) (field p 2 1) (field p 3 4)
  | .paramGet => b.serveParamGet (field p 0 1) (field p 1 1) (field p 2 1)
  | .configSave => b.serveConfigSave
  | .allowanceRestore =>
    b.onLine p fun l => b.serveAllowanceRestore l (field p 1 2) (field p 3 2)
      ⟨field p 5 2, field p 7 2, field p 9 2, field p 11 2, field p 13 2⟩
  | .lineStart => b.onLine p b.serveLineStart
  | .lineFeed => b.onLine p b.serveLineFeed
  | .lineStop => b.onLine p b.serveLineStop
  | .lineCeiling => b.onLine p fun l => b.serveLineCeiling l (field p 1 2)
  | .lineDeclare => b.onLine p fun l => b.serveDeclareAction l (field p 1 1)
  | .turbineStart => b.onTurbine p b.serveTurbineStart
  | .turbineStop => b.onTurbine p b.serveTurbineStop
  | .tripReset => b.onTurbine p b.serveTripReset
  | .scheduleAdd =>
    b.serveScheduleAdd ⟨field p 0 2, field p 2 2, field p 4 2⟩ (field p 6 2) (field p 8 2)
  | .scheduleCancel => b.serveScheduleCancel ⟨field p 0 2, field p 2 2, field p 4 2⟩
  | .scheduleList => b.serveScheduleList
  | .stationEnrol => b.serveStationEnrol
  | .stationList => b.onStation (field p 0 1) b.serveStationList
  | .stationBind => b.onStation (field p 0 1) fun n => b.onRole (field p 1 1) (b.serveStationBind n)
  | .stationUnbind => b.onRole (field p 0 1) b.serveStationUnbind
  | .stationForget => b.onStation (field p 0 1) b.serveStationForget
  | .recordsFetch => b.serveRecordsFetch (field p 0 4) (field p 4 1)
  | .statusLine => b.onLine p b.serveStatusLine
  | .statusTurbine => b.onTurbine p b.serveStatusTurbine
  | .statusPlant => b.serveStatusPlant
  | .noticeList => b.serveListFrom (field p 0 1)
  | .noticeClear => b.serveNoticeClear (field p 0 1) (field p 1 1)
  | .noticeFloor => b.serveNoticeFloor (field p 0 1)
  | .restart => b.serveRestart

/-- A request passed to its owner, after the tests of its kind and length (R194). -/
def serve (b : Block) (r : Request) : Block × Reply :=
  match reqKindOf r.kind with
  | none => (b, refuse .unknownKind)
  | some k => if r.payload.length = k.length then b.serveKind k r.payload else (b, refuse .badLength)

/-- A request executed and answered (R194, R203): while it is, it awaits its reply; then the reply is placed,
after the NOTICE messages its execution placed: DESIGN CHOICE (notes/assumptions/46.md). -/
def answer (b : Block) (r : Request) : Block :=
  let res := (b.modLink fun k => { k with awaiting := true }).serve r
  (res.1.place (replyFrame r.kind r.tag res.2)).modLink fun k => { k with awaiting := false }

/-- A request may be taken (R194, R199). -/
def mayTake (b : Block) : Bool :=
  !b.link.restarting && decide (Config.requestRoom ≤ b.outboundFree)

/-- The request at the head leaves the inbound buffer and is executed (R193, R194). -/
def take (b : Block) (r : Request) (rest : List Request) : Block :=
  (b.modLink fun k => { k with requests := rest }.evalRdyo).answer r

/-- Requests taken in their order while they may be (R194). -/
def takeAlong : List Request → Block → Block
  | [], b => b
  | r :: rest, b => if b.mayTake then takeAlong rest (b.take r rest) else b

/-- The waiting requests taken while they may be. -/
def takeWaiting (b : Block) : Block := takeAlong b.link.requests b

/-- What an arrival leaves at the head of the inbound buffer is taken if it may be. A request that waits for
room is taken when a message has left (R194), and an arrival behind it changes nothing of that. -/
def takeArrived (b : Block) (before : List Request) : Block := if before = [] then b.takeWaiting else b

/-- A byte from the host (R192): a request it completes waits behind the others, and is taken if it may be. -/
def hostByte (b : Block) (v : Byte) : Block := (b.receive v).takeArrived b.link.requests

/-- A run of bytes from the host. -/
def hostBytes (b : Block) (vs : List Byte) : Block := vs.foldl hostByte b

/-- A whole request frame meets nothing that could stop it: the receiver takes bytes, no frame is in
assembly, and there is room for it. -/
def frameMeetsRoom (b : Block) (r : Request) : Bool :=
  b.link.takes && b.link.assembler == .hunt && b.link.assembly == [] && decide (r.payload.length ≤ 248) &&
    decide (b.link.held + r.size ≤ Config.inboundSize)

/-- A request sent whole by the host, its bytes in sequence with no gap. Where nothing can stop the frame
it becomes a complete request at its last byte (R192); otherwise its bytes are taken one by one. -/
def submit (b : Block) (r : Request) : Block :=
  if b.frameMeetsRoom r then
    (b.modLink fun k => { k with requests := k.requests ++ [r] }.evalRdyo).takeArrived b.link.requests
  else b.hostBytes (frameBytes r.kind r.tag r.payload)

/-- The last byte of the oldest message has been sent (R193, R194, R199, R204): it leaves the buffer.
With a restart pending and the DONE sent, RDYO is deasserted and the full reset is due. Otherwise owed
notices and waiting requests take the room, in the order given. -/
def messageSent (b : Block) (requestFirst : Bool) : Block :=
  if !b.link.sending then b
  else
    let b1 := b.modLink fun k => { k with outbound := k.outbound.tail, sending := false, sent := 0 }
    if b1.link.restartPending then
      (if b1.link.outbound = [] then
        b1.modLink fun k => { k with rdyo := false, restartPending := false, restartDue := true }
       else b1)
    else if requestFirst then b1.takeWaiting.sendOwed
    else b1.sendOwed.takeWaiting

/-- What the host link brings at a moment, taken. -/
def linkEvent (b : Block) (e : LinkEvent) : Block :=
  match e with
  | .byte v => b.hostByte v
  | .messageSent requestFirst => b.messageSent requestFirst

/-- The moment of a grant (R170). Where a frame leaves the queue at it, a walk in WAIT_ROOM places its FORGET at that
same moment (R180), after what the link takes at it first: a request taken so may fill the freed place, and the
walk then stays in WAIT_ROOM until the next frame leaves. The operand lists what the link takes first: DESIGN
CHOICE (notes/assumptions/35.md). -/
def grantMoment (b : Block) (first : List LinkEvent) : Block :=
  let b1 := first.foldl linkEvent b.grant
  if b.bus.state = .free ∧ b.bus.queue ≠ [] then b1.queueFreed else b1

end Block

/-! ## Commands -/

/-- BUS_GRANT (R170, R180); where the operand is left out, the link takes nothing at that moment. -/
def execBusGrant (s : State) (first : List LinkEvent := []) : Host.Outcome State Fault Refusal :=
  s.onBlock fun b => b.grantMoment first

/-- HOST_BYTE_RECEIVED (R192). -/
def execHostByteReceived (v : Byte) (s : State) : Host.Outcome State Fault Refusal :=
  s.onBlock fun b => b.hostByte v

/-- MESSAGE_SENT (R204). -/
def execMessageSent (requestFirst : Bool) (s : State) : Host.Outcome State Fault Refusal :=
  s.onBlock fun b => b.messageSent requestFirst

/-- A request of a kind sent whole. -/
def submitKind (k : ReqKind) (tag : Byte) (payload : List Byte) (s : State) :
    Host.Outcome State Fault Refusal :=
  s.onBlock fun b => b.submit ⟨byte k.code, tag, payload⟩

/-- A request field of two bytes. -/
def wire16 (v : Word16) : List Byte := u16 v.toNat

/-- A request field of four bytes. -/
def wire32 (v : Word32) : List Byte := u32 v.toNat

/-- UNKNOWN_KIND (R194). -/
def execUnknownKind (tag kind : Byte) (payload : List Byte) (s : State) :
    Host.Outcome State Fault Refusal :=
  s.onBlock fun b => b.submit ⟨kind, tag, payload⟩

/-- IDENT (R197). -/
def execIdent (tag : Byte) (s : State) : Host.Outcome State Fault Refusal := submitKind .ident tag [] s

/-- CLOCK_SET (R28). -/
def execClockSet (tag : Byte) (year day : Word16) (second : Word32) (s : State) :
    Host.Outcome State Fault Refusal :=
  submitKind .clockSet tag (wire16 year ++ wire16 day ++ wire32 second) s

/-- CLOCK_READ (R33). -/
def execClockRead (tag : Byte) (s : State) : Host.Outcome State Fault Refusal :=
  submitKind .clockRead tag [] s

/-- PARAM_SET (R210). -/
def execParamSet (tag group inst item : Byte) (value : Word32) (s : State) :
    Host.Outcome State Fault Refusal :=
  submitKind .paramSet tag ([group, inst, item] ++ wire32 value) s

/-- PARAM_GET (R211). -/
def execParamGet (tag group inst item : Byte) (s : State) : Host.Outcome State Fault Refusal :=
  submitKind .paramGet tag [group, inst, item] s

/-- CONFIG_SAVE (R214). -/
def execConfigSave (tag : Byte) (s : State) : Host.Outcome State Fault Refusal :=
  submitKind .configSave tag [] s

/-- ALLOWANCE_RESTORE (R113). -/
def execAllowanceRestore (tag line : Byte) (year used dust co nox so2 hcl : Word16) (s : State) :
    Host.Outcome State Fault Refusal :=
  submitKind .allowanceRestore tag
    (line :: (wire16 year ++ wire16 used ++ wire16 dust ++ wire16 co ++ wire16 nox ++ wire16 so2 ++
      wire16 hcl)) s

/-- LINE_START (R5). -/
def execLineStart (tag line : Byte) (s : State) : Host.Outcome State Fault Refusal :=
  submitKind .lineStart tag [line] s

/-- LINE_FEED (R6, R15). -/
def execLineFeed (tag line : Byte) (s : State) : Host.Outcome State Fault Refusal :=
  submitKind .lineFeed tag [line] s

/-- LINE_STOP (R16). -/
def execLineStop (tag line : Byte) (s : State) : Host.Outcome State Fault Refusal :=
  submitKind .lineStop tag [line] s

/-- LINE_CEILING (R19). -/
def execLineCeiling (tag line : Byte) (value : Word16) (s : State) : Host.Outcome State Fault Refusal :=
  submitKind .lineCeiling tag (line :: wire16 value) s

/-- LINE_DECLARE (R20). -/
def execLineDeclare (tag line action : Byte) (s : State) : Host.Outcome State Fault Refusal :=
  submitKind .lineDeclare tag [line, action] s

/-- TURBINE_START (R146). -/
def execTurbineStart (tag turbine : Byte) (s : State) : Host.Outcome State Fault Refusal :=
  submitKind .turbineStart tag [turbine] s

/-- TURBINE_STOP (R148). -/
def execTurbineStop (tag turbine : Byte) (s : State) : Host.Outcome State Fault Refusal :=
  submitKind .turbineStop tag [turbine] s

/-- TRIP_RESET (R152). -/
def execTripReset (tag turbine : Byte) (s : State) : Host.Outcome State Fault Refusal :=
  submitKind .tripReset tag [turbine] s

/-- SCHEDULE_ADD (R138). -/
def execScheduleAdd (tag : Byte) (year day minute p h : Word16) (s : State) :
    Host.Outcome State Fault Refusal :=
  submitKind .scheduleAdd tag (wire16 year ++ wire16 day ++ wire16 minute ++ wire16 p ++ wire16 h) s

/-- SCHEDULE_CANCEL (R139). -/
def execScheduleCancel (tag : Byte) (year day minute : Word16) (s : State) :
    Host.Outcome State Fault Refusal :=
  submitKind .scheduleCancel tag (wire16 year ++ wire16 day ++ wire16 minute) s

/-- SCHEDULE_LIST (R139). -/
def execScheduleList (tag : Byte) (s : State) : Host.Outcome State Fault Refusal :=
  submitKind .scheduleList tag [] s

/-- STATION_ENROL (R184). -/
def execStationEnrol (tag : Byte) (s : State) : Host.Outcome State Fault Refusal :=
  submitKind .stationEnrol tag [] s

/-- STATION_LIST (R188). -/
def execStationList (tag first : Byte) (s : State) : Host.Outcome State Fault Refusal :=
  submitKind .stationList tag [first] s

/-- STATION_BIND (R185). -/
def execStationBind (tag number role : Byte) (s : State) : Host.Outcome State Fault Refusal :=
  submitKind .stationBind tag [number, role] s

/-- STATION_UNBIND (R186). -/
def execStationUnbind (tag role : Byte) (s : State) : Host.Outcome State Fault Refusal :=
  submitKind .stationUnbind tag [role] s

/-- STATION_FORGET (R187). -/
def execStationForget (tag number : Byte) (s : State) : Host.Outcome State Fault Refusal :=
  submitKind .stationForget tag [number] s

/-- RECORDS_FETCH (R208). -/
def execRecordsFetch (tag : Byte) (serial : Word32) (count : Byte) (s : State) :
    Host.Outcome State Fault Refusal :=
  submitKind .recordsFetch tag (wire32 serial ++ [count]) s

/-- STATUS_LINE (R198). -/
def execStatusLine (tag line : Byte) (s : State) : Host.Outcome State Fault Refusal :=
  submitKind .statusLine tag [line] s

/-- STATUS_TURBINE (R198). -/
def execStatusTurbine (tag turbine : Byte) (s : State) : Host.Outcome State Fault Refusal :=
  submitKind .statusTurbine tag [turbine] s

/-- STATUS_PLANT (R198). -/
def execStatusPlant (tag : Byte) (s : State) : Host.Outcome State Fault Refusal :=
  submitKind .statusPlant tag [] s

/-- NOTICE_LIST (R205). -/
def execNoticeList (tag first : Byte) (s : State) : Host.Outcome State Fault Refusal :=
  submitKind .noticeList tag [first] s

/-- NOTICE_CLEAR (R205). -/
def execNoticeClear (tag kind subject : Byte) (s : State) : Host.Outcome State Fault Refusal :=
  submitKind .noticeClear tag [kind, subject] s

/-- NOTICE_FLOOR (R205). -/
def execNoticeFloor (tag floor : Byte) (s : State) : Host.Outcome State Fault Refusal :=
  submitKind .noticeFloor tag [floor] s

/-- RESTART (R199). -/
def execRestart (tag : Byte) (s : State) : Host.Outcome State Fault Refusal :=
  submitKind .restart tag [] s

end Sys2Proof.Machine
end

