-- ==== Sys2Proof/Machine/Resets.lean ====
section
/-! DEFINITION. Full resets (R197, R199, R215, R216) and the ready point (R213, R216). -/

namespace Sys2Proof.Machine
open Sys2Proof
namespace Block

/-- A full reset (R216): every block at its full-reset values; the external memory keeps what a save had
written (R215). -/
def fullyReset (b : Block) (cause : ResetCause) (baud1 baud0 : Bool) (written : Nat) : Block :=
  Block.fullReset cause baud1 baud0 (b.memoryAtReset written) b.order

/-- R216, step 1: the image loaded, CONFIG raised where the defaults are kept. -/
def loadConfiguration (b : Block) (answers : Bool) : Block := b.applyLoad (loadMemory answers b.cmc.memory)

/-- R216, step 1, second part: the loaded baud is in force. -/
def baudInForce (b : Block) : Block := b.modBus fun x => { x with baud := b.cmc.params.bus.baud }

/-- R216, step 2: a broadcast CLEAR and then a broadcast FORGET. -/
def queueBroadcasts (b : Block) : Block := (b.enqueue ⟨false, 0⟩).enqueue ⟨true, 0⟩

/-- R216, step 3: a walk begins if any binding is stored. -/
def startWalk (b : Block) : Block :=
  if b.cmc.stored.any Option.isSome then b.beginWalk .start else b

/-- R216, step 4: the input levels found are taken, whatever an assertion before the ready point has left: one
found low is taken as an assertion, one found high as released. DESIGN CHOICE for an input asserted before the
ready point (notes/assumptions/3.md). -/
def takeInputs (b : Block) (feedStopLow trip1Low trip2Low : Bool) : Block :=
  let b1 := if feedStopLow then b.feedStopTaken else b.feedStopReleased
  let b2 := if trip1Low then b1.tripAsserted .t1 else b1.tripReleased .t1
  if trip2Low then b2.tripAsserted .t2 else b2.tripReleased .t2

/-- R216, step 5: the receiver on with the assembler in HUNT, and RDYO asserted. -/
def receiverOn (b : Block) : Block :=
  { b with ready := true
           link := { b.link with receiver := true, assembler := .hunt, assembly := [], rdyo := true } }

/-- The ready point (R216). -/
def readyPoint (b : Block) (answers feedStopLow trip1Low trip2Low : Bool) : Block :=
  (((b.loadConfiguration answers).baudInForce.queueBroadcasts.startWalk).takeInputs feedStopLow trip1Low
    trip2Low).receiverOn

end Block

/-- POWER_ON (R216). -/
def execPowerOn (baud1 baud0 : Bool) (written : Nat) (s : State) : Host.Outcome State Fault Refusal :=
  s.onBlock fun b => b.fullyReset .power baud1 baud0 written

/-- RSTN_RESET (R197). -/
def execRstnReset (baud1 baud0 : Bool) (written : Nat) (s : State) : Host.Outcome State Fault Refusal :=
  s.onBlock fun b => b.fullyReset .pin baud1 baud0 written

/-- RESTART_RESET (R199): the full reset that follows the DONE of a RESTART, or a link reset while one is
pending. Where none is due it does not come. -/
def execRestartReset (baud1 baud0 : Bool) (written : Nat) (s : State) : Host.Outcome State Fault Refusal :=
  s.onBlock fun b => if b.link.restartDue then b.fullyReset .restart baud1 baud0 written else b

/-- READY_POINT (R216): once after each full reset. -/
def execReadyPoint (memoryAnswers feedStopLow trip1Low trip2Low : Bool) (s : State) :
    Host.Outcome State Fault Refusal :=
  s.onBlock fun b => if b.ready then b else b.readyPoint memoryAnswers feedStopLow trip1Low trip2Low

end Sys2Proof.Machine
end

