-- ==== Sys2Proof/Machine/Dispatch.lean ====
section
/-! DEFINITION. The dispatch of the commands: one arm per row of the table, each one direct call of its meaning. -/

namespace Sys2Proof.Machine
open Sys2Proof

def exec (i : Instr) (s : State) : Host.Outcome State Fault Refusal :=
  match i with
  | .powerOn baud1 baud0 written => Sys2Proof.Machine.execPowerOn baud1 baud0 written s
  | .rstnReset baud1 baud0 written => Sys2Proof.Machine.execRstnReset baud1 baud0 written s
  | .restartReset baud1 baud0 written => Sys2Proof.Machine.execRestartReset baud1 baud0 written s
  | .readyPoint memoryAnswers feedStopLow trip1Low trip2Low => Sys2Proof.Machine.execReadyPoint memoryAnswers feedStopLow trip1Low trip2Low s
  | .secondTick order => Sys2Proof.Machine.execSecondTick order s
  | .firingEntry l => Sys2Proof.Machine.execFiringEntry l s
  | .holdReturn l => Sys2Proof.Machine.execHoldReturn l s
  | .holdLimit l => Sys2Proof.Machine.execHoldLimit l s
  | .burnoutEnd l => Sys2Proof.Machine.execBurnoutEnd l s
  | .strokeDue l => Sys2Proof.Machine.execStrokeDue l s
  | .strokeTimeout l => Sys2Proof.Machine.execStrokeTimeout l s
  | .runupQualified t => Sys2Proof.Machine.execRunupQualified t s
  | .runupTimeout t => Sys2Proof.Machine.execRunupTimeout t s
  | .feedStopAssert => Sys2Proof.Machine.execFeedStopAssert s
  | .feedStopRelease => Sys2Proof.Machine.execFeedStopRelease s
  | .tripAssert t => Sys2Proof.Machine.execTripAssert t s
  | .tripRelease t => Sys2Proof.Machine.execTripRelease t s
  | .spdRisingEdge t cycles => Sys2Proof.Machine.execSpdRisingEdge t cycles s
  | .speedCountOverflow t => Sys2Proof.Machine.execSpeedCountOverflow t s
  | .busGrant first => Sys2Proof.Machine.execBusGrant s first
  | .turnaroundEnd => Sys2Proof.Machine.execTurnaroundEnd s
  | .unansweredFrameEnd => Sys2Proof.Machine.execUnansweredFrameEnd s
  | .stationCharReceived c => Sys2Proof.Machine.execStationCharReceived c s
  | .strayCharacter c => Sys2Proof.Machine.execStrayCharacter c s
  | .responseTimeout => Sys2Proof.Machine.execResponseTimeout s
  | .answerGapTimeout => Sys2Proof.Machine.execAnswerGapTimeout s
  | .settleEnd => Sys2Proof.Machine.execSettleEnd s
  | .rollCallWindowEnd => Sys2Proof.Machine.execRollCallWindowEnd s
  | .hostByteReceived b => Sys2Proof.Machine.execHostByteReceived b s
  | .hostGapTimeout => Sys2Proof.Machine.execHostGapTimeout s
  | .linkReset => Sys2Proof.Machine.execLinkReset s
  | .hrdyAsserted => Sys2Proof.Machine.execHrdyAsserted s
  | .messageSent requestFirst => Sys2Proof.Machine.execMessageSent requestFirst s
  | .unknownKind tag kind payload => Sys2Proof.Machine.execUnknownKind tag kind payload s
  | .ident tag => Sys2Proof.Machine.execIdent tag s
  | .clockSet tag year day second => Sys2Proof.Machine.execClockSet tag year day second s
  | .clockRead tag => Sys2Proof.Machine.execClockRead tag s
  | .paramSet tag group inst item value => Sys2Proof.Machine.execParamSet tag group inst item value s
  | .paramGet tag group inst item => Sys2Proof.Machine.execParamGet tag group inst item s
  | .configSave tag => Sys2Proof.Machine.execConfigSave tag s
  | .configWriteDone bad => Sys2Proof.Machine.execConfigWriteDone bad s
  | .configVerifyDone => Sys2Proof.Machine.execConfigVerifyDone s
  | .allowanceRestore tag line year used dust co nox so2 hcl => Sys2Proof.Machine.execAllowanceRestore tag line year used dust co nox so2 hcl s
  | .lineStart tag line => Sys2Proof.Machine.execLineStart tag line s
  | .lineFeed tag line => Sys2Proof.Machine.execLineFeed tag line s
  | .lineStop tag line => Sys2Proof.Machine.execLineStop tag line s
  | .lineCeiling tag line value => Sys2Proof.Machine.execLineCeiling tag line value s
  | .lineDeclare tag line action => Sys2Proof.Machine.execLineDeclare tag line action s
  | .turbineStart tag turbine => Sys2Proof.Machine.execTurbineStart tag turbine s
  | .turbineStop tag turbine => Sys2Proof.Machine.execTurbineStop tag turbine s
  | .tripReset tag turbine => Sys2Proof.Machine.execTripReset tag turbine s
  | .scheduleAdd tag year day minute p h => Sys2Proof.Machine.execScheduleAdd tag year day minute p h s
  | .scheduleCancel tag year day minute => Sys2Proof.Machine.execScheduleCancel tag year day minute s
  | .scheduleList tag => Sys2Proof.Machine.execScheduleList tag s
  | .stationEnrol tag => Sys2Proof.Machine.execStationEnrol tag s
  | .stationList tag first => Sys2Proof.Machine.execStationList tag first s
  | .stationBind tag number role => Sys2Proof.Machine.execStationBind tag number role s
  | .stationUnbind tag role => Sys2Proof.Machine.execStationUnbind tag role s
  | .stationForget tag number => Sys2Proof.Machine.execStationForget tag number s
  | .recordsFetch tag serial count => Sys2Proof.Machine.execRecordsFetch tag serial count s
  | .statusLine tag line => Sys2Proof.Machine.execStatusLine tag line s
  | .statusTurbine tag turbine => Sys2Proof.Machine.execStatusTurbine tag turbine s
  | .statusPlant tag => Sys2Proof.Machine.execStatusPlant tag s
  | .noticeList tag first => Sys2Proof.Machine.execNoticeList tag first s
  | .noticeClear tag kind subject => Sys2Proof.Machine.execNoticeClear tag kind subject s
  | .noticeFloor tag floor => Sys2Proof.Machine.execNoticeFloor tag floor s
  | .restart tag => Sys2Proof.Machine.execRestart tag s
  | .stationFrameSent => Sys2Proof.Machine.execStationFrameSent s
  | .hrxdReturnedHigh => Sys2Proof.Machine.execHrxdReturnedHigh s

end Sys2Proof.Machine
end

