-- ==== Sys2Proof/Safety.lean ====
section
/-! DEFINITION. The terms the statements use: what a reachable state keeps (the spec's own invariants),
when a request is executed at once, and what a command leaves alone. -/

namespace Sys2Proof.Machine
open Sys2Proof

/-! ## Invariants -/

/-- Serials follow one another in entry order, and the next serial follows the last (R207). -/
def serialsFollow : List StoredRecord → Nat → Bool
  | [], _ => true
  | [r], next => Block.serialAfter r.serial == next
  | r :: r' :: rs, next => Block.serialAfter r.serial == r'.serial && serialsFollow (r' :: rs) next

/-- R207: the store holds at most 192 records, of consecutive serials. -/
def RecordStore.ok (r : RecordStore) : Bool :=
  decide (r.records.length ≤ Config.storeSize) && serialsFollow r.records r.nextSerial

/-- The configuration memory keeps its one canonical form. -/
def Block.memoryOk (b : Block) : Bool := Memory.wf b.cmc.memory

/-- R52: every line's LHV estimate lies in its range. -/
def Block.lhvOk (b : Block) : Bool :=
  allLines.all fun l => decide (Config.lhvMin ≤ (b.line l).gfu.lhv) && decide ((b.line l).gfu.lhv ≤ Config.lhvMax)

/-- R175 for the entries: numbers 1 to 24, distinct; identifiers distinct; at most one entry for a role; kinds
that match; and of a LOST one the return state current (R176). -/
def Bus.entriesOk (x : Bus) : Bool :=
  (x.stations.all fun e => decide (1 ≤ e.number) && decide (e.number ≤ Config.maxStation)) &&
  decide (x.stations.map Station.number).Nodup && decide (x.stations.map Station.ident).Nodup &&
  decide (x.stations.filterMap Station.role).Nodup &&
  (x.stations.all fun e => (kindOf e.ident.kind).isSome && e.role.all fun r => kindOf e.ident.kind == some r.kind) &&
  x.stations.all fun e => !e.lost || e.returnBound == e.role.isSome

/-- The number held for a candidate that is no rejoin is free, no entry holds its identifier, and its kind is
one of the seven (R179). -/
def Bus.candidateOk (x : Bus) : Bool :=
  x.walk.candidate.all fun c =>
    c.rejoin || (decide (1 ≤ c.number) && decide (c.number ≤ Config.maxStation) &&
      (!x.stations.any fun e => e.number == c.number || e.ident == c.ident) && (kindOf c.ident.kind).isSome)

/-- R175: the station table, with the number the walk is about to give. -/
def Bus.tablesOk (x : Bus) : Bool := x.entriesOk && x.candidateOk

/-- The schedule is in strictly rising order of effective time, with at most 16 entries (R137). -/
def schedOk : List SchedEntry → Bool
  | [] => true
  | [e] => e.time.valid
  | e :: f :: q => e.time.valid && e.time.before f.time && schedOk (f :: q)

/-- A parameter set as writes leave it (R209, R210, 13.2): every value in its item's range and as the owner's
rounding leaves it, the 27 notice classes, and no σh of T1, which TURBINE 1 has not (R144). -/
def Params.ok (p : Params) : Bool :=
  (allParamNames.all fun n => n.item.all fun x =>
    decide (x.lo ≤ x.get p) && decide (x.get p ≤ x.hi) && n.round p (x.get p) == x.get p) &&
  p.classes.length == 27 && p.turbine.t1.sigmaH == 0

/-- R35: a line's load is 0 outside FIRING and never above its effective ceiling. -/
def Block.loadOk (b : Block) : Bool :=
  allLines.all fun l => ((b.line l).lsc.state == .firing || (b.line l).gfu.load == 0) &&
    decide ((b.line l).gfu.load ≤ (b.line l).gfu.ceiling)

/-- R132: the balance law on the figures held: steam allocated, uncontrolled and missing on one side, turbine
targets after the cut, bypass, trim and unabsorbed steam on the other. -/
def Block.balanceLaw (b : Block) : Prop :=
  let alloc (l : LineId) : Nat := ((b.blu.figures.get l).map LineFigures.alloc).getD 0
  (alloc .l1 + alloc .l2 + alloc .l3 + b.blu.uncontrolled + b.blu.residual : Int) =
    (b.turbine .t1).targetAfter + (b.turbine .t2).targetAfter + b.blu.target + b.blu.trim + b.blu.unabsorbed

/-- A machine that has not stopped: its step answers a next state. -/
def State.runs (s : State) : Prop := ∃ t, step s = .next t

/-- The state with another part and the same queue. -/
def State.withBlock (s : State) (b : Block) : State := { s with block := b }

/-! ## Requests executed at once -/

/-- A request sent now is executed at its last byte (R192, R194): the receiver takes bytes, no frame is in
assembly, no request waits, RDYO is asserted, no restart is pending, and 256 bytes are free outbound. -/
def Block.linkIdle (b : Block) : Bool :=
  b.link.takes && b.link.assembler == .hunt && b.link.assembly == [] && b.link.requests == [] &&
    b.link.rdyo && !b.link.restarting && !b.link.awaiting && decide (Config.requestRoom ≤ b.outboundFree)

/-- The part with a DONE reply placed (R195). -/
def Block.repliedDone (b : Block) (k : ReqKind) (tag : Byte) (fields : List Byte) : Block :=
  b.place (replyFrame (byte k.code) tag (.done fields))

/-- The part with a REFUSED reply placed (R195). -/
def Block.repliedRefused (b : Block) (k : ReqKind) (tag : Byte) (c : RefusalCode) (detail : Nat) : Block :=
  b.place (replyFrame (byte k.code) tag (.refused c detail))

/-- The newest message of the outbound buffer is the reply to a request. -/
def Block.lastReply (b : Block) (k : ReqKind) (tag : Byte) (r : Reply) : Prop :=
  b.link.outbound.getLast? = some (replyFrame (byte k.code) tag r)

/-! ## What a command leaves alone -/

/-- The reset cause, the ready point, the FEED-STOP level, the order of owners and the clock are as before. -/
def Block.baseKept (b t : Block) : Prop :=
  t.ready = b.ready ∧ t.cause = b.cause ∧ t.feedStop = b.feedStop ∧ t.order = b.order ∧ t.clock = b.clock

/-- Every line but `l`, and its copy in the BLU, is as before. -/
def Block.otherLinesKept (b t : Block) (l : LineId) : Prop :=
  ∀ m, m ≠ l → t.line m = b.line m ∧ t.blu.copies.get m = b.blu.copies.get m

/-- Of the plant's blocks, the station bus and the configuration, only line `l` and its copy changed. -/
def Block.onlyLine (b t : Block) (l : LineId) : Prop :=
  b.baseKept t ∧ t.tdu = b.tdu ∧ t.bus = b.bus ∧ t.cmc = b.cmc ∧
    t.blu = { b.blu with copies := t.blu.copies } ∧ b.otherLinesKept t l

/-- Notices, the Record Store and the link are as before. -/
def Block.reportsKept (b t : Block) : Prop := t.notices = b.notices ∧ t.rcs = b.rcs ∧ t.link = b.link

/-- Notices and the Record Store are as before, and the outbound buffer has gained one message. -/
def Block.onlyReplied (b t : Block) (k : ReqKind) (tag : Byte) (r : Reply) : Prop :=
  t.notices = b.notices ∧ t.rcs = b.rcs ∧
    t.link = { b.link with outbound := b.link.outbound ++ [replyFrame (byte k.code) tag r] }

/-- What the owners of a role do as it is bound, to a LOST station or not (R176): R56, R60 an analyzer is
selected where none was, and ends the ANALYZER cause; R90 a LOST dosing station is a DOSING cause; R145 the
turbine's copy is emptied; the other roles' owners read the role table. -/
def Block.tookBinding (b t : Block) (lost : Bool) : Role → Prop
  | .feeder _ | .furnace _ | .header | .bypass =>
    t.lines = b.lines ∧ t.blu = b.blu ∧ t.tdu = b.tdu ∧ t.notices = b.notices ∧ t.rcs = b.rcs
  | .turbine u => t.lines = b.lines ∧ t.blu = b.blu ∧ t.notices = b.notices ∧ t.rcs = b.rcs ∧
    t.tdu = (b.modTurbine u fun x =>
      { x with station := ⟨true, !lost, none, .unknown, x.station.status⟩ }).tdu
  | .dosing l =>
    let c := (b.line l).ccu
    let d := (t.line l).ccu
    b.otherLinesKept t l ∧ t.tdu = b.tdu ∧ d.dosingLost = lost ∧ d.dosingFault = false ∧
    (t.line l).dau.causes = { (b.line l).dau.causes with
      dosing := if (c.dosingLost || c.dosingFault) = lost then (b.line l).dau.causes.dosing else lost }
  | .analyzerA l =>
    let e := (b.line l).eau
    let f := (t.line l).eau
    b.otherLinesKept t l ∧ t.tdu = b.tdu ∧ f.roleA = ⟨true, !lost, false⟩ ∧ f.roleB = e.roleB ∧
    (e.active ≠ .none → f.active = e.active ∧ (t.line l).dau = (b.line l).dau) ∧
    (e.active = .none → f.active = if lost then (if e.roleB.available then .b else .none) else .a) ∧
    (e.active = .none → f.active ≠ .none → (t.line l).dau.causes = { (b.line l).dau.causes with analyzer := false })
  | .analyzerB l =>
    let e := (b.line l).eau
    let f := (t.line l).eau
    b.otherLinesKept t l ∧ t.tdu = b.tdu ∧ f.roleB = ⟨true, !lost, false⟩ ∧ f.roleA = e.roleA ∧
    (e.active ≠ .none → f.active = e.active ∧ (t.line l).dau = (b.line l).dau) ∧
    (e.active = .none → f.active = if e.roleA.available then .a else if lost then .none else .b) ∧
    (e.active = .none → f.active ≠ .none → (t.line l).dau.causes = { (b.line l).dau.causes with analyzer := false })

/-- What the owners of a role do as it is unbound (R176): R4, R117 the furnace's sample and steam become absent;
R56, R58, R59, R61 the active analyzer hands over to the other or to NONE with the ANALYZER cause; R90 the
DOSING cause of the station ends and its rate is absent; R118 header pressure and bypass flow are absent; R145
the turbine's copy is emptied. -/
def Block.tookUnbinding (b t : Block) : Role → Prop
  | .feeder _ => t.lines = b.lines ∧ t.blu = b.blu ∧ t.tdu = b.tdu
  | .header => t.lines = b.lines ∧ t.blu = { b.blu with pressure := none } ∧ t.tdu = b.tdu
  | .bypass => t.lines = b.lines ∧ t.blu = { b.blu with flow := none } ∧ t.tdu = b.tdu
  | .turbine u => t.lines = b.lines ∧ t.blu = b.blu ∧
    t.tdu = (b.modTurbine u fun x =>
      { x with station := ⟨false, false, none, .unknown, x.station.status⟩ }).tdu
  | .furnace l => b.otherLinesKept t l ∧ t.tdu = b.tdu ∧
    t.line l = { b.line l with lsc := { (b.line l).lsc with sample := none, hot := false, confirm := 0 } } ∧
    t.blu.copies.get l = { b.blu.copies.get l with steam := none, stale := false }
  | .dosing l =>
    let c := (b.line l).ccu
    let d := (t.line l).ccu
    b.otherLinesKept t l ∧ t.tdu = b.tdu ∧ d.dosingLost = false ∧ d.dosingFault = false ∧ d.actualRate = none ∧
    (t.line l).dau.causes = { (b.line l).dau.causes with
      dosing := !(c.dosingLost || c.dosingFault) && (b.line l).dau.causes.dosing }
  | .analyzerA l =>
    let e := (b.line l).eau
    let f := (t.line l).eau
    b.otherLinesKept t l ∧ t.tdu = b.tdu ∧ f.roleA = ⟨false, false, false⟩ ∧ f.roleB = e.roleB ∧
    (e.active ≠ .a → f.active = e.active ∧ (t.line l).dau = (b.line l).dau) ∧
    (e.active = .a → e.roleB.available = true → f.active = .b ∧ (t.line l).dau = (b.line l).dau) ∧
    (e.active = .a → e.roleB.available = false → f.active = .none ∧
      (t.line l).dau.causes = { (b.line l).dau.causes with analyzer := true })
  | .analyzerB l =>
    let e := (b.line l).eau
    let f := (t.line l).eau
    b.otherLinesKept t l ∧ t.tdu = b.tdu ∧ f.roleB = ⟨false, false, false⟩ ∧ f.roleA = e.roleA ∧
    (e.active ≠ .b → f.active = e.active ∧ (t.line l).dau = (b.line l).dau) ∧
    (e.active = .b → e.roleA.available = true → f.active = .a ∧ (t.line l).dau = (b.line l).dau) ∧
    (e.active = .b → e.roleA.available = false → f.active = .none ∧
      (t.line l).dau.causes = { (b.line l).dau.causes with analyzer := true })

/-- The notice of a kind and subject is pending, and its detail is the one given (R202, R203). -/
def Block.pendingWith (b : Block) (k : NoticeKind) (subject : Nat) (detail : List Byte) : Prop :=
  ∃ e, b.notice k subject = some e ∧ e.detail = padDetail detail

end Sys2Proof.Machine
end

