-- ==== Sys2Proof/Certificates/Slice0/Obligations.lean ====
section
/-! DEFINITION. The statements for the provers. Each docstring names the rules of the spec it rests on;
the terms used are those of Safety.lean. -/

open Sys2Proof Sys2Proof.Machine

/-! ## The queue, resets and the ready point -/

/-- The command at the front of the queue is executed with the queue's rest. With none the part idles: the closes
their owners have put off are taken, a rundown of a limit that waits for its LSC is taken (R108), of a message being
sent one more byte leaves, all but its last, and nothing else changes (the model's choices, notes/assumptions/1.md,
notes/assumptions/9.md, notes/assumptions/48.md and notes/assumptions/49.md). -/
def Obligations.StepTakesFrontCommand : Prop :=
  (∀ (c : Instr) (s : State), step { s with pending := c :: s.pending } = exec c s) ∧
  (∀ b : Block, b.clock.late ≠ [] → step ⟨[], b⟩ =
    step ⟨[], { b with clock := { b.clock with late := [] } }.deliverAll b.clock.late⟩) ∧
  (∀ b : Block, b.clock.late = [] → (∀ l, (b.line l).lsc.limitDue = none) →
    (b.link.sending = false → step ⟨[], b⟩ = .next ⟨[], b⟩) ∧
    ∀ (m : List Byte) (ms : List (List Byte)), b.link.sending = true → b.link.outbound = m :: ms →
      (b.link.sent + 1 < m.length → step ⟨[], b⟩ =
        .next ⟨[], b.modLink fun k => { k with sent := k.sent + 1 }⟩) ∧
      (m.length ≤ b.link.sent + 1 → step ⟨[], b⟩ = .next ⟨[], b⟩)) ∧
  ∀ (b : Block) (l : LineId) (c : RundownCause), b.clock.late = [] → (b.line l).lsc.limitDue = some c →
    ∃ t, step ⟨[], b⟩ = .next t ∧ t.pending = [] ∧ (t.block.line l).lsc.limitDue = none ∧
      (b.inService l = true → (t.block.line l).lsc.state = .rundown ∧ (t.block.line l).lsc.cause = c) ∧
      (b.inService l = false → t.block.line l =
        { b.line l with lsc := { (b.line l).lsc with limitDue := none } })

/-- R216, R190, R197, R116, R177: a full reset by power-on, RSTN or a due RESTART gives the fields named here their
full-reset values: of the lines, the turbines, the clock, the whole balance record (the stale mark of a line in it is
the model's choice, notes/assumptions/51.md), the schedule, the station bus with its walk record, the notices, the
Record Store, the link and the configuration. The cause is recorded and the link baud is that of the straps. The queue
of commands and, with no save being written, the external memory are as before. R213, R216: the ready point after a
full reset that finds no image, all inputs released: the defaults are kept, CONFIG tells DEFAULTED, ABSENT, the two
broadcasts wait in their order, no walk begins, and the receiver is on. R213, R216, R17, R150: the ready point that
accepts an image takes its values, bindings and CRC and raises no CONFIG; a walk of origin START begins where a
binding is stored; FEED-STOP found low raises FEEDSTOP and retracts every feeder, and the trip inputs take the levels
found. R216, R17, R143: in every state before the ready point each level found is the one taken, whatever an assertion
before it has left (the model's choice, notes/assumptions/3.md). -/
def Obligations.FullResetAndReadyPoint : Prop :=
  (∀ (s : State) (hi lo : Bool) (w : Nat), s.block.cmc.save ≠ .writing →
     ∀ (i : Instr) (c : ResetCause),
       (i = .powerOn hi lo w ∧ c = .power) ∨ (i = .rstnReset hi lo w ∧ c = .pin) ∨
         (i = .restartReset hi lo w ∧ c = .restart ∧ s.block.link.restartDue = true) →
       ∃ t, exec i s = .next t ∧ t.pending = s.pending ∧ t.block.cause = c ∧ t.block.ready = false ∧
         (∀ l, (t.block.line l).lsc.state = .idle ∧ (t.block.line l).gfu.lhv = 9500 ∧
           (t.block.line l).ccu.effective = 1100 ∧ (t.block.line l).dau.episode = none ∧
           (t.block.line l).eau.active = .none) ∧
         (∀ u, (t.block.turbine u).state = .offline ∧ (t.block.turbine u).speed.status = .stopped) ∧
         t.block.clock = ⟨none, 0, 0, none, []⟩ ∧ t.block.tdu.queue = [] ∧ t.block.bus.stations = [] ∧
         t.block.blu = Blu.reset ∧ t.block.bus.walk = ⟨false, none, [], .none, none, 0, 0, 0, none⟩ ∧
         t.block.bus.queue = [] ∧ t.block.bus.state = .free ∧ t.block.bus.driver = false ∧
         t.block.notices = ⟨0, []⟩ ∧ t.block.rcs = ⟨[], 1, 0⟩ ∧
         t.block.link.receiver = false ∧ t.block.link.rdyo = false ∧ t.block.link.requests = [] ∧
         t.block.link.outbound = [] ∧
         t.block.link.baud = (if hi then (if lo then 460800 else 230400) else if lo then 115200 else 57600) ∧
         t.block.cmc.save = .idle ∧ t.block.cmc.params = Params.default ∧
         t.block.cmc.memory = s.block.cmc.memory) ∧
  (∀ (q : List Instr) (c : ResetCause) (hi lo : Bool) (order : List Owner) (m : List Host.Cell)
     (answers : Bool), (answers = false ∨ m = []) →
     ∃ t, exec (.readyPoint answers false false false) ⟨q, Block.fullReset c hi lo m order⟩ = .next t ∧
       t.pending = q ∧ t.block.ready = true ∧ t.block.cmc.source = .defaults ∧
       t.block.cmc.params = Params.default ∧ t.block.cmc.imageCrc = 0 ∧
       t.block.bus.queue = [⟨false, 0⟩, ⟨true, 0⟩] ∧ t.block.bus.walk.active = false ∧
       t.block.pendingWith .config 0 [0, 0] ∧ t.block.link.receiver = true ∧
       t.block.link.assembler = .hunt ∧ t.block.link.rdyo = true ∧ t.block.clock.time = none) ∧
  (∀ (q : List Instr) (c : ResetCause) (hi lo stop low1 low2 : Bool) (order : List Owner) (m : List Host.Cell)
     (p : Params) (places : List (Option StationId)) (crc : Nat), loadImage m = .accepted p places crc →
     ∃ t, exec (.readyPoint true stop low1 low2) ⟨q, Block.fullReset c hi lo m order⟩ = .next t ∧
       t.pending = q ∧ t.block.ready = true ∧ t.block.link.receiver = true ∧ t.block.link.rdyo = true ∧
       t.block.cmc.source = .image ∧ t.block.cmc.params = p ∧ t.block.cmc.stored = places ∧
       t.block.cmc.imageCrc = crc ∧ t.block.bus.baud = p.bus.baud ∧
       t.block.bus.queue = [⟨false, 0⟩, ⟨true, 0⟩] ∧ t.block.notice .config 0 = none ∧
       ((∃ i, some i ∈ places) →
         t.block.bus.walk = ⟨true, some .start, [[]], .rollCall, none, 0, 0, 0, none⟩) ∧
       ((∀ i, some i ∉ places) → t.block.bus.walk.active = false) ∧
       t.block.feedStop = stop ∧ (t.block.turbine .t1).tripInput = low1 ∧
       (t.block.turbine .t2).tripInput = low2 ∧
       (∀ u, (t.block.turbine u).state = .offline ∧ (t.block.turbine u).lastTrip = none) ∧
       ∀ l, (t.block.line l).lsc.state = .idle ∧
         (stop = true → t.block.pendingWith .feedstop (lineNumber l) [byte 0] ∧
           (t.block.line l).gfu.command = .retract) ∧
         (stop = false → t.block.notice .feedstop (lineNumber l) = none ∧
           (t.block.line l).gfu.command = .hold)) ∧
  (∀ (s : State) (answers stop low1 low2 : Bool), s.block.ready = false →
     ∃ t, exec (.readyPoint answers stop low1 low2) s = .next t ∧ t.block.feedStop = stop ∧
       (t.block.turbine .t1).tripInput = low1 ∧ (t.block.turbine .t2).tripInput = low2)

/-- R214, R215: a full reset by RSTN taken after the save mark 1 has been written and before the mark 0 leaves
an image the next load rejects: the defaults, no stored binding, and CONFIG with DEFAULTED, CRC. How many of the
save's byte writes had reached the memory is the operand w of the reset (the model's form,
notes/assumptions/12.md). -/
def Obligations.AbandonedSaveLoadsDefaults : Prop :=
  ∀ (s : State) (n : Snapshot) (w : Nat) (hi lo : Bool),
    s.block.memoryOk = true → s.block.cmc.save = .writing → s.block.cmc.snapshot = some n →
    7 ≤ w → w < n.writes.length →
    ∃ t u, exec (.rstnReset hi lo w) s = .next t ∧ exec (.readyPoint true false false false) t = .next u ∧
      u.block.cmc.source = .defaults ∧ u.block.cmc.params = Params.default ∧
      u.block.cmc.stored = noBindings ∧ u.block.cmc.imageCrc = 0 ∧ u.block.pendingWith .config 0 [0, 1]

/-- R212, R213, R214: a save whose bytes all reach the memory ends in SAVE_DONE, and the ready point after the
next full reset by RSTN loads that image: source IMAGE, the snapshot's CRC, the snapshot's bindings, and, where
the values in the snapshot are such as PARAM SET stores (Params.ok), the snapshot's parameter values. Where an s0
lies above the default smax the last rests on s0 being bounded by smax after the last value of the image, the
model's choice (notes/assumptions/31.md). -/
def Obligations.FinishedSaveLoadsBack : Prop :=
  ∀ (s : State) (n : Snapshot) (hi lo : Bool),
    s.block.memoryOk = true → s.block.cmc.save = .writing → s.block.cmc.snapshot = some n →
    n.bindings.length = 19 →
    ∃ t u v w, exec (.configWriteDone []) s = .next t ∧ t.block.cmc.save = .verifying ∧
      t.block.cmc.stored = s.block.cmc.stored ∧
      exec .configVerifyDone t = .next u ∧ u.block.cmc.save = .idle ∧ u.block.cmc.snapshot = none ∧
      u.block.cmc.stored = n.bindings ∧ u.block.cmc.params = s.block.cmc.params ∧
      u.block.pendingWith .config 0 (1 :: u16 n.crc) ∧
      exec (.rstnReset hi lo 0) u = .next v ∧ exec (.readyPoint true false false false) v = .next w ∧
      w.block.cmc.source = .image ∧ w.block.cmc.imageCrc = n.crc ∧ w.block.cmc.stored = n.bindings ∧
      (n.params.ok = true → w.block.cmc.params = n.params)

/-- R214: one cell of the image that does not take its byte ends the save in SAVE_FAULT with its offset, and
the stored bindings are unchanged. -/
def Obligations.DamagedSaveIsReported : Prop :=
  ∀ (s : State) (n : Snapshot) (k : Nat) (v : Byte),
    s.block.memoryOk = true → s.block.cmc.save = .writing → s.block.cmc.snapshot = some n →
    n.bindings.length = 19 → k < 689 → v ≠ byteAt n.image k →
    ∃ t u, exec (.configWriteDone [(k, v)]) s = .next t ∧ exec .configVerifyDone t = .next u ∧
      u.block.cmc.save = .idle ∧ u.block.cmc.snapshot = none ∧
      u.block.cmc.stored = s.block.cmc.stored ∧ u.block.cmc.params = s.block.cmc.params ∧
      u.block.pendingWith .config 0 (2 :: u16 k)

/-- R214: CONFIG SAVE in IDLE forms the snapshot from the values in force and the identifiers bound to the
roles; in WRITING or VERIFYING it is refused BUSY and the save goes on. -/
def Obligations.ConfigSaveTakesSnapshot : Prop :=
  ∀ (s : State) (tag : Byte), s.block.linkIdle = true →
    (s.block.cmc.save = .idle →
      exec (.configSave tag) s = .next (s.withBlock ((s.block.modCmc fun c =>
          { c with save := .writing
                   snapshot := some ⟨c.params, allRoles.map fun r => (s.block.holder r).map (·.ident)⟩
          }).repliedDone .configSave tag []))) ∧
    (s.block.cmc.save ≠ .idle →
      exec (.configSave tag) s = .next (s.withBlock (s.block.repliedRefused .configSave tag .busy 0)))

/-! ## The clock -/

/-- R24, R25: a second tick counts uptime, and while UNSET the balance phase from 0 to 5; while RUNNING it advances
the time, and the phase is the second modulo 6; at the end of 2099 the clock becomes UNSET with phase 0. Whatever the
owners do with their deliveries, in whatever order (an operand, the model's form, notes/assumptions/5.md), last set,
the configuration and the FEED-STOP level are as before, and so is the station bus, since no command but BUS_GRANT
grants a frame (the model's choice, notes/assumptions/8.md). R23, R24: every valid time before the last second of 2099
advances to a valid time one second on, and the stamp encoding of R196, in seconds from 2001, counts exactly that
second. R24 to R26, R120: while RUNNING each tick delivers the second tick to every LSC, GFU and turbine, a balance
tick on a second divisible by 6, a minute close at the end of each minute, a half-hour close at the end of each 30 and
a day close at the end of the day, each close named by the time that ended, and while UNSET the second tick and a
balance tick as the phase returns to 0; every delivery is taken once, each owner's in that order. A delivery has its
owner's effect: the closes at EAU, CCU, GFU and DAU; a rundown a DAU delivers waits for the LSC, which takes it, or
puts it off where the operand says so (R108, the form is the model's choice, notes/assumptions/48.md). The closes of
an EAU, CCU, DAU or GFU that the operand puts off wait past the commands of the same instant and are taken at the
latest before the next tick, so that a stroke, a cause or a line state may change between two owners' taking of one
close (R63, R67, R21; the form is the model's choice, notes/assumptions/49.md). R134: the balance cycle runs on the
line states and ceilings the BLU has taken, each by a delivery of its own (the form of the interleaving is the model's
choice, notes/assumptions/5.md), and leaves the copies with the newest; a line changed since is counted as it was. -/
def Obligations.SecondTickAdvancesTheClock : Prop :=
  (∀ (s : State) (order : List Owner),
     ∃ t, exec (.secondTick order) s = .next t ∧ t.pending = s.pending ∧
       t.block.clock.uptime = min 4294967295 (s.block.clock.uptime + 1) ∧
       t.block.clock.lastSet = s.block.clock.lastSet ∧
       t.block.bus = s.block.bus ∧ t.block.cmc = s.block.cmc ∧ t.block.feedStop = s.block.feedStop ∧
       (s.block.clock.time = none → t.block.clock.time = none ∧
         t.block.clock.phase = if s.block.clock.phase < 5 then s.block.clock.phase + 1 else 0) ∧
       (∀ x y, s.block.clock.time = some x → x.advance = some y →
         t.block.clock.time = some y ∧ t.block.clock.phase = y.second % 6) ∧
       (∀ x, s.block.clock.time = some x → x.advance = none →
         t.block.clock.time = none ∧ t.block.clock.phase = 0)) ∧
  (∀ x : Time, x.valid = true →
     (x.advance = none ↔ x = ⟨2099, 365, 86399⟩) ∧
     ∀ y, x.advance = some y → y.valid = true ∧ y.sinceEpoch = x.sinceEpoch + 1) ∧
  (∀ (s : State) (order : List Owner), s.block.clock.late ≠ [] → exec (.secondTick order) s =
     exec (.secondTick order) (s.withBlock
       ({ s.block with clock := { s.block.clock with late := [] } }.deliverAll s.block.clock.late))) ∧
  (∀ (s : State) (order : List Owner) (x y : Time), s.block.clock.late = [] →
     s.block.clock.time = some x → x.advance = some y →
     let closes : List Close :=
       (if y.second % 60 = 0 then [.minute ⟨x.year, x.day, x.second / 60⟩ false] else []) ++
       (if y.second % 1800 = 0 then [.halfHour x.year x.day (x.second / 1800) false] else []) ++
       (if y.second = 0 then [.day x.year x.day (y.year != x.year) false] else [])
     let jobs : List Job :=
       tickJobs ++ (if y.second % 6 = 0 then [⟨.balance, none⟩] else []) ++ closes.flatMap closeJobs
     ∃ js : List Job, js.Perm jobs ∧
       (∀ o : Owner, (js.filter fun j => j.owner == o) = jobs.filter fun j => j.owner == o) ∧
       let late (j : Job) : Bool := match j.owner with
         | .eau l => decide (.eauLater l ∈ order)
         | .ccu l => decide (.ccuLater l ∈ order)
         | .dau l => decide (.dauLater l ∈ order)
         | .gfuClose l => decide (.gfuCloseLater l ∈ order)
         | _ => false
       let clock : Clock := { s.block.clock with
         time := some y, phase := y.second % 6, uptime := min 4294967295 (s.block.clock.uptime + 1) }
       let t := Block.deliver { s.block with order := order, clock := clock } (js.filter fun j => !late j)
       exec (.secondTick order) s =
         .next (s.withBlock { t with clock := { clock with late := js.filter late } })) ∧
  (∀ (s : State) (order : List Owner), s.block.clock.late = [] → s.block.clock.time = none →
     let jobs : List Job := tickJobs ++ (if 5 ≤ s.block.clock.phase then [⟨.balance, none⟩] else [])
     ∃ js : List Job, js.Perm jobs ∧
       exec (.secondTick order) s = .next (s.withBlock (Block.deliver
         { s.block with order := order
                        clock := { s.block.clock with
                          phase := if s.block.clock.phase < 5 then s.block.clock.phase + 1 else 0
                          uptime := min 4294967295 (s.block.clock.uptime + 1) } } js))) ∧
  (∀ (x : Pass) (l : LineId) (u : TurbineId) (m : MinuteId) (cut r : Bool) (y d i : Nat),
     (Job.mk (.lsc l) none).run x = { x with block := x.block.lscTick l } ∧
     (Job.mk (.gfu l) none).run x = { x with block := x.block.gfuTick l } ∧
     (Job.mk (.turbine u) none).run x = { x with block := x.block.turbineTick u } ∧
     (let c := x.block.blu.copies.get l
      (Job.mk (.blu l) none).run x = { x with taken := x.taken.set l ⟨c.state, c.ceiling⟩ }) ∧
     (x.taken = x.block.taken → (Job.mk .balance none).run x = { x with block := x.block.balanceCycle }) ∧
     (let y := ((Job.mk .balance none).run x).block
      let z := (x.block.withTaken x.taken).balanceCycle
      y.blu = { z.blu with copies := x.block.blu.copies } ∧ y.lines = z.lines ∧ y.tdu = z.tdu ∧
      y.notices = z.notices ∧ ∀ i, (x.block.line i).lsc.state ≠ .firing → y.line i = x.block.line i) ∧
     (Job.mk (.eau l) (some (.minute m cut))).run x = { x with block := x.block.eauMinute l m cut } ∧
     (Job.mk (.ccu l) (some (.minute m cut))).run x = { x with block := x.block.ccuClose l m } ∧
     (Job.mk (.gfuClose l) (some (.minute m cut))).run x = { x with block := x.block.gfuClose l m } ∧
     (Job.mk (.eau l) (some (.halfHour y d i cut))).run x =
       { x with block := x.block.eauHalfHour l y d i cut } ∧
     (Job.mk (.eau l) (some (.day y d r cut))).run x = { x with block := x.block.eauDay l y d r cut } ∧
     (let found := x.block.dauRundown l (.minute m cut)
      let t := x.block.dauMinute l
      (found = none → (Job.mk (.dau l) (some (.minute m cut))).run x = { x with block := t }) ∧
      ∀ c, found = some c → (Job.mk (.dau l) (some (.minute m cut))).run x =
        { x with block := t.modLsc l fun y => { y with limitDue := some c } }) ∧
     (let due := (x.block.line l).lsc.limitDue
      let later : Prop := Owner.limitLater l ∈ x.block.order
      (due = none ∨ later → (Job.mk (.limit l) (some (.minute m cut))).run x = x) ∧
      ∀ c, due = some c → ¬later → (Job.mk (.limit l) (some (.minute m cut))).run x =
        { x with block := (x.block.takeRundown l c).modLsc l fun y => { y with limitDue := none } }))

/-- R28 to R31: an accepted CLOCK SET stores the time and last set, leaves uptime and, by the model's reading
(notes/assumptions/26.md), the balance phase, and replies with the cut set: MINUTE while RUNNING, HALF_HOUR where the
half-hour changes, DAY where the day or year does, YEAR where the year does; nothing while UNSET; the time in the
reply has no presence bytes (the model's reading, notes/assumptions/27.md). These closes, named by the time before the
set and with the cut mark, and the year change are delivered, each owner's in that order (R30, R31), and their effects
on lines, turbines, balance, records and notices are those of the deliveries, with the clock at the old time
(notes/assumptions/26.md) and in the order last given (notes/assumptions/5.md), both the model's choice; while UNSET
none is delivered. Closes that were put off, and a rundown that waits, are taken first, and closes of the set may be
put off (the model's choices, notes/assumptions/49.md and notes/assumptions/48.md), but those of a DAU not where the
year changes, so that a year change reaches it with every line IDLE (R112). A refused one changes nothing. That the
reply stands after the NOTICE messages its own request has placed is the model's choice (notes/assumptions/46.md). -/
def Obligations.ClockSetStoresTheTime : Prop :=
  ∀ (s : State) (tag : Byte) (y d : Word16) (c : Word32), s.block.linkIdle = true →
    let new : Time := ⟨y.toNat, d.toNat, c.toNat⟩
    let closes : List Close := match s.block.clock.time with
      | none => []
      | some x =>
        let sameDay : Bool := x.year == new.year && x.day == new.day
        [.minute ⟨x.year, x.day, x.second / 60⟩ true] ++
        (if sameDay && x.second / 1800 == new.second / 1800 then [] else
          [.halfHour x.year x.day (x.second / 1800) true]) ++
        (if sameDay then [] else [.day x.year x.day false true]) ++
        (if x.year = new.year then [] else [.yearChange x.year new.year])
    let told (b : Block) := b.notices.entries.map fun e => (e.kind, e.subject, e.count, e.first, e.last, e.detail)
    (new.valid = false → exec (.clockSet tag y d c) s =
      .next (s.withBlock (s.block.repliedRefused .clockSet tag .range 0))) ∧
    (new.valid = true → (∃ x, s.block.clock.time = some x ∧ x.year ≠ new.year) → s.block.allIdle = false →
      exec (.clockSet tag y d c) s =
        .next (s.withBlock (s.block.repliedRefused .clockSet tag .wrongState 0))) ∧
    (new.valid = true →
      (s.block.clock.time = none ∨ (∃ x, s.block.clock.time = some x ∧ x.year = new.year) ∨
        s.block.allIdle = true) →
      ∃ t, exec (.clockSet tag y d c) s = .next t ∧
        t.block.clock = { s.block.clock with
          time := some new, lastSet := some new, late := t.block.clock.late } ∧
        t.block.bus = s.block.bus ∧ t.block.cmc = s.block.cmc ∧
        (∃ js : List Job, js.Perm (closes.flatMap closeJobs) ∧
          (∀ o : Owner, (js.filter fun j => j.owner == o) =
            (closes.flatMap closeJobs).filter fun j => j.owner == o) ∧
          let late (j : Job) : Bool := match j.owner with
            | .eau l => decide (.eauLater l ∈ s.block.order)
            | .ccu l => decide (.ccuLater l ∈ s.block.order)
            | .dau l => decide (.dauLater l ∈ s.block.order) && closes.all fun c => match c with
              | .yearChange _ _ => false
              | _ => true
            | .gfuClose l => decide (.gfuCloseLater l ∈ s.block.order)
            | _ => false
          let u := (Block.deliverAll { s.block with clock := { s.block.clock with late := [] } }
            s.block.clock.late).deliver (js.filter fun j => !late j)
          t.block.clock.late = js.filter late ∧
          t.block.lines = u.lines ∧ t.block.blu = u.blu ∧ t.block.tdu = u.tdu ∧ t.block.rcs = u.rcs ∧
          told t.block = told u) ∧
        t.block.lastReply .clockSet tag (.done ([byte 1] ++ u16 new.year ++ u16 new.day ++ u32 new.second ++
          [byte (match s.block.clock.time with
            | none => 0
            | some x => setBits
                [true, x.year != new.year || x.day != new.day || x.second / 1800 != new.second / 1800,
                 x.year != new.year || x.day != new.day, x.year != new.year])])))

/-- R33: CLOCK READ carries the clock state, the time, leap, half-hour index and minute-of-half-hour, the balance
phase, uptime and last set, and changes nothing else. That each of the six fields of the time has a presence
byte of its own and last set one for the whole is the model's reading (notes/assumptions/27.md). -/
def Obligations.ClockReadCarriesTheRecord : Prop :=
  ∀ (s : State) (tag : Byte), s.block.linkIdle = true →
    let k := s.block.clock
    (∀ x, k.time = some x → exec (.clockRead tag) s = .next (s.withBlock (s.block.repliedDone .clockRead tag ([byte 1] ++ [byte 1] ++ u16 x.year ++ [byte 1] ++ u16 x.day ++
        [byte 1] ++ u32 x.second ++ [byte 1, byte (if x.year % 4 = 0 then 1 else 0)] ++
        [byte 1, byte (x.second / 1800)] ++ [byte 1, byte (x.second / 60 % 30)] ++ [byte k.phase] ++
        u32 k.uptime ++ optional 8 encTime k.lastSet)))) ∧
    (k.time = none → exec (.clockRead tag) s = .next (s.withBlock (s.block.repliedDone .clockRead tag (List.replicate 18 (byte 0) ++ [byte k.phase] ++
        u32 k.uptime ++ optional 8 encTime k.lastSet))))

/-! ## The lines -/

/-- R5: LINE START on an IDLE line with every prerequisite met enters WARMUP with feed requested 0 and replies
DONE with the new state; nothing but the line, its copy in the BLU and the reply changes. R5: the prerequisites
of LINE START in their order: the first unmet one is the detail of a NOT_READY refusal, and the line stays
IDLE. In RUNDOWN the request is refused WRONG_STATE, and in WARMUP, FIRING and HOLD it is DONE with the current
state and no change. -/
def Obligations.LineStartEntersWarmupOrSaysWhy : Prop :=
  (∀ (s : State) (tag : Byte) (l : LineId), s.block.linkIdle = true →
     (s.block.line l).lsc.state = .idle → s.block.running = true → s.block.allowanceRestored l = true →
     s.block.bound (.feeder l) = true → s.block.bound (.furnace l) = true → s.block.bound (.dosing l) = true →
     (s.block.bound (.analyzerA l) = true ∨ s.block.bound (.analyzerB l) = true) →
     ∃ t, exec (.lineStart tag (byte (lineNumber l))) s = .next t ∧ t.pending = s.pending ∧
       (t.block.line l).lsc.state = .warmup ∧ (t.block.line l).lsc.feedRequested = false ∧
       (t.block.line l).gfu.load = 0 ∧ (t.block.line l).gfu.ring = [] ∧
       (t.block.line l).ccu.guard = 1100 ∧ (t.block.line l).ccu.reagent = 1100 ∧
       s.block.onlyLine t.block l ∧ s.block.onlyReplied t.block .lineStart tag (.done [byte 1])) ∧
  (∀ (s : State) (tag : Byte) (l : LineId), s.block.linkIdle = true →
     let b := s.block
     let answers (c : RefusalCode) (d : Nat) : Prop :=
       exec (.lineStart tag (byte (lineNumber l))) s =
         .next (s.withBlock (b.repliedRefused .lineStart tag c d))
     ((b.line l).lsc.state = .rundown → answers .wrongState 0) ∧
     ((b.line l).lsc.state = .idle →
       (b.running = false → answers .notReady 1) ∧
       (b.running = true → b.allowanceRestored l = false → answers .notReady 2) ∧
       (b.allowanceRestored l = true → b.bound (.feeder l) = false → answers .notReady 3) ∧
       (b.allowanceRestored l = true → b.bound (.feeder l) = true → b.bound (.furnace l) = false →
         answers .notReady 4) ∧
       (b.allowanceRestored l = true → b.bound (.feeder l) = true → b.bound (.furnace l) = true →
         b.bound (.dosing l) = false → answers .notReady 5) ∧
       (b.allowanceRestored l = true → b.bound (.feeder l) = true → b.bound (.furnace l) = true →
         b.bound (.dosing l) = true → b.bound (.analyzerA l) = false → b.bound (.analyzerB l) = false →
         answers .notReady 6)) ∧
     ((b.line l).lsc.state = .warmup ∨ (b.line l).lsc.state = .firing ∨ (b.line l).lsc.state = .hold →
       exec (.lineStart tag (byte (lineNumber l))) s =
         .next (s.withBlock (b.repliedDone .lineStart tag [byte (b.line l).lsc.state.code]))))

/-- R6, R15: LINE FEED in WARMUP with FEED-STOP released sets feed requested; in RUNDOWN, with none of the
three refusals, it returns the line to WARMUP with feed requested 1 and the burnout timer 0. R6, R15: the
refusals of LINE FEED, in their order, and its DONE with no change in FIRING and HOLD. -/
def Obligations.LineFeedRequestsFeedOrSaysWhy : Prop :=
  (∀ (s : State) (tag : Byte) (l : LineId), s.block.linkIdle = true → s.block.feedStop = false →
     ((s.block.line l).lsc.state = .warmup → exec (.lineFeed tag (byte (lineNumber l))) s =
       .next (s.withBlock ((s.block.modLsc l fun x => { x with feedRequested := true }).repliedDone .lineFeed tag [byte 1]))) ∧
     ((s.block.line l).lsc.state = .rundown →
       ((s.block.line l).lsc.cause = .episodeLimit → (s.block.line l).dau.episode = none) →
       ((s.block.line l).lsc.cause = .allowance → (s.block.line l).dau.used < 3600) →
       ∃ t, exec (.lineFeed tag (byte (lineNumber l))) s = .next t ∧
         (t.block.line l).lsc.state = .warmup ∧ (t.block.line l).lsc.feedRequested = true ∧
         (t.block.line l).lsc.burnout = 0 ∧ (t.block.line l).gfu.faults = 0 ∧
         s.block.onlyLine t.block l ∧ s.block.onlyReplied t.block .lineFeed tag (.done [byte 1]))) ∧
  (∀ (s : State) (tag : Byte) (l : LineId), s.block.linkIdle = true →
     let b := s.block
     let answers (c : RefusalCode) : Prop :=
       exec (.lineFeed tag (byte (lineNumber l))) s =
         .next (s.withBlock (b.repliedRefused .lineFeed tag c 0))
     ((b.line l).lsc.state = .idle → answers .wrongState) ∧
     (((b.line l).lsc.state = .warmup ∨ (b.line l).lsc.state = .rundown) → b.feedStop = true →
       answers .inhibited) ∧
     ((b.line l).lsc.state = .rundown → b.feedStop = false → (b.line l).lsc.cause = .episodeLimit →
       (b.line l).dau.episode ≠ none → answers .causeOpen) ∧
     ((b.line l).lsc.state = .rundown → b.feedStop = false → (b.line l).lsc.cause = .allowance →
       3600 ≤ (b.line l).dau.used → answers .exhausted) ∧
     ((b.line l).lsc.state = .firing ∨ (b.line l).lsc.state = .hold →
       exec (.lineFeed tag (byte (lineNumber l))) s =
         .next (s.withBlock (b.repliedDone .lineFeed tag [byte (b.line l).lsc.state.code]))))

/-- R16, with R10 and R14: LINE STOP by line state. That the reply stands after
the NOTICE messages its own request has placed is the model's choice (notes/assumptions/46.md). -/
def Obligations.LineStopByState : Prop :=
  ∀ (s : State) (tag : Byte) (l : LineId), s.block.linkIdle = true →
    let i := Instr.lineStop tag (byte (lineNumber l))
    ((s.block.line l).lsc.state = .idle →
      exec i s = .next (s.withBlock (s.block.repliedDone .lineStop tag [byte 0]))) ∧
    ((s.block.line l).lsc.state = .rundown →
      exec i s = .next (s.withBlock (s.block.repliedDone .lineStop tag [byte 4]))) ∧
    ((s.block.line l).lsc.state = .warmup →
      ∃ t, exec i s = .next t ∧ (t.block.line l).lsc.state = .idle ∧
        (t.block.line l).lsc.feedRequested = false ∧ (t.block.line l).lsc.burnout = 0 ∧
        (t.block.line l).ccu.demand = 0 ∧ (t.block.line l).dau.episode = none ∧
        s.block.onlyLine t.block l ∧ t.block.lastReply .lineStop tag (.done [byte 0])) ∧
    (((s.block.line l).lsc.state = .firing ∨ (s.block.line l).lsc.state = .hold) →
      ∃ t, exec i s = .next t ∧ (t.block.line l).lsc.state = .rundown ∧
        (t.block.line l).lsc.cause = .host ∧ (t.block.line l).lsc.feedRequested = false ∧
        (t.block.line l).lsc.burnout = 0 ∧ (t.block.line l).lsc.hold = 0 ∧
        (t.block.line l).gfu.load = 0 ∧ (t.block.line l).gfu.phase = .none ∧
        (t.block.line l).gfu.command = .retract ∧
        (t.block.line l).gfu.fedMass = (s.block.line l).gfu.fedMass ∧
        s.block.onlyLine t.block l ∧ s.block.onlyReplied t.block .lineStop tag (.done [byte 4]))

/-- R19, R97: LINE CEILING stores the clamped value, the effective ceiling is the least term at once, and a
FIRING line's load is clamped to it at once. -/
def Obligations.LineCeilingClampsAtOnce : Prop :=
  ∀ (s : State) (tag : Byte) (l : LineId) (v : Word16), s.block.linkIdle = true →
    ∃ t, exec (.lineCeiling tag (byte (lineNumber l)) v) s = .next t ∧
      (t.block.line l).ccu.host = min v.toNat 1100 ∧
      (t.block.line l).ccu.effective = (t.block.line l).ccu.leastTerm ∧
      (t.block.line l).lsc = (s.block.line l).lsc ∧ (t.block.line l).dau = (s.block.line l).dau ∧
      ((s.block.line l).lsc.state = .firing →
        (s.block.line l).gfu.load ≤ (s.block.line l).ccu.effective →
        (t.block.line l).gfu.load = min (s.block.line l).gfu.load (t.block.line l).ccu.effective) ∧
      s.block.onlyLine t.block l ∧
      s.block.onlyReplied t.block .lineCeiling tag (.done (u16 (min v.toNat 1100)))

/-- R20, R103, R104, R96: LINE DECLARE SET on a FIRING or HOLD line whose cause set is empty and that has no episode
adds DECLARED, opens an episode stamped now with no minutes, raises DEVIATION_OPEN with the causes, and applies the
deviation ceiling. A SET outside FIRING and HOLD, or with other causes present, adds DECLARED to the causes and to
those seen by an open episode, and opens none. A SET with DECLARED already present changes nothing. R20, R109, R110:
LINE DECLARE CLEAR of the only cause closes the open episode with reason CLEARED, enters its EPISODE record under the
next serial, raises DEVIATION_CLOSED, and lifts the deviation ceiling. A CLEAR that leaves other causes removes
DECLARED alone, with an open episode going on and the deviation ceiling in force; one that empties the set with no
episode open lifts the ceiling and raises and records nothing. A CLEAR with DECLARED absent changes nothing. That the
reply stands after the NOTICE messages its own request has placed is the model's choice (notes/assumptions/46.md). -/
def Obligations.DeclaredDeviationOpensAndCloses : Prop :=
  (∀ (s : State) (tag : Byte) (l : LineId), s.block.linkIdle = true →
     (s.block.inService l = true →
       (s.block.line l).dau.causes = ⟨false, false, false⟩ → (s.block.line l).dau.episode = none →
       ∃ t, exec (.lineDeclare tag (byte (lineNumber l)) (byte 0)) s = .next t ∧
         (t.block.line l).dau.causes = ⟨false, false, true⟩ ∧
         (t.block.line l).dau.episode = some ⟨s.block.now, ⟨false, false, true⟩, 0, .none⟩ ∧
         (t.block.line l).ccu.deviation = (s.block.lineParams l).deviationCeil ∧
         (t.block.line l).ccu.effective = (t.block.line l).ccu.leastTerm ∧
         (t.block.line l).lsc = (s.block.line l).lsc ∧
         t.block.pendingWith .deviationOpen (lineNumber l) [byte 4] ∧ t.block.rcs = s.block.rcs ∧
         s.block.onlyLine t.block l ∧ t.block.lastReply .lineDeclare tag (.done [byte 4])) ∧
     ((s.block.line l).dau.causes.declared = false →
       (s.block.inService l = false ∨ (s.block.line l).dau.causes.isEmpty = false) →
       ∃ t, exec (.lineDeclare tag (byte (lineNumber l)) (byte 0)) s = .next t ∧
         let c : Causes := { (s.block.line l).dau.causes with declared := true }
         (t.block.line l).dau = { (s.block.line l).dau with
           causes := c
           episode := (s.block.line l).dau.episode.map fun e => { e with causesSeen := e.causesSeen.union c } } ∧
         (t.block.line l).ccu.deviation = (s.block.lineParams l).deviationCeil ∧
         (t.block.line l).ccu.effective = (t.block.line l).ccu.leastTerm ∧
         s.block.onlyLine t.block l ∧
         s.block.onlyReplied t.block .lineDeclare tag (.done [byte c.bits])) ∧
     ((s.block.line l).dau.causes.declared = true →
       exec (.lineDeclare tag (byte (lineNumber l)) (byte 0)) s =
         .next (s.withBlock (s.block.repliedDone .lineDeclare tag [byte (s.block.line l).dau.causes.bits])))) ∧
  (∀ (s : State) (tag : Byte) (l : LineId), s.block.linkIdle = true →
     (∀ e : Episode, (s.block.line l).dau.causes = ⟨false, false, true⟩ → (s.block.line l).dau.episode = some e →
       ∃ t, exec (.lineDeclare tag (byte (lineNumber l)) (byte 1)) s = .next t ∧
         (t.block.line l).dau.causes = ⟨false, false, false⟩ ∧ (t.block.line l).dau.episode = none ∧
         (t.block.line l).dau.last = some ⟨.cleared, e.minutes, s.block.now⟩ ∧
         (t.block.line l).dau.closed = min 65535 ((s.block.line l).dau.closed + 1) ∧
         (t.block.line l).dau.used = (s.block.line l).dau.used ∧
         (t.block.line l).ccu.deviation = 1100 ∧
         t.block.rcs.records.getLast? = some ⟨s.block.rcs.nextSerial, l, .episode
           ⟨e.openStamp, s.block.now, e.minutes, e.causesSeen, .cleared, e.limit,
             (s.block.line l).dau.used, (s.block.line l).dau.restoredYear⟩⟩ ∧
         t.block.pendingWith .deviationClosed (lineNumber l) [byte 0] ∧
         s.block.onlyLine t.block l ∧ t.block.lastReply .lineDeclare tag (.done [byte 0])) ∧
     ((s.block.line l).dau.causes = ⟨false, false, true⟩ → (s.block.line l).dau.episode = none →
       ∃ t, exec (.lineDeclare tag (byte (lineNumber l)) (byte 1)) s = .next t ∧
         (t.block.line l).dau = { (s.block.line l).dau with causes := ⟨false, false, false⟩ } ∧
         (t.block.line l).ccu.deviation = 1100 ∧
         (t.block.line l).ccu.effective = (t.block.line l).ccu.leastTerm ∧
         (t.block.line l).lsc = (s.block.line l).lsc ∧ s.block.onlyLine t.block l ∧
         s.block.onlyReplied t.block .lineDeclare tag (.done [byte 0])) ∧
     (∀ analyzer dosing : Bool, (analyzer = true ∨ dosing = true) →
       (s.block.line l).dau.causes = ⟨analyzer, dosing, true⟩ →
       ∃ t, exec (.lineDeclare tag (byte (lineNumber l)) (byte 1)) s = .next t ∧
         let c : Causes := ⟨analyzer, dosing, false⟩
         (t.block.line l).dau = { (s.block.line l).dau with
           causes := c
           episode := (s.block.line l).dau.episode.map fun e => { e with causesSeen := e.causesSeen.union c } } ∧
         (t.block.line l).ccu.deviation = (s.block.lineParams l).deviationCeil ∧
         (t.block.line l).ccu.effective = (t.block.line l).ccu.leastTerm ∧
         (t.block.line l).lsc = (s.block.line l).lsc ∧ s.block.onlyLine t.block l ∧
         s.block.onlyReplied t.block .lineDeclare tag (.done [byte c.bits])) ∧
     ((s.block.line l).dau.causes.declared = false →
       exec (.lineDeclare tag (byte (lineNumber l)) (byte 1)) s =
         .next (s.withBlock (s.block.repliedDone .lineDeclare tag [byte (s.block.line l).dau.causes.bits]))))

/-- R17: an assertion of FEED-STOP taken: each line acts by its state, every GFU aborts and commands RETRACT,
and FEEDSTOP is raised for each line with the state just before. A level already asserted is no change. R18:
the release of FEED-STOP changes no line and no GFU: the level alone changes; and R6 then accepts a LINE FEED
in WARMUP that was INHIBITED while the input was asserted. -/
def Obligations.FeedStopInhibitsAndReleases : Prop :=
  (∀ s : State,
     (s.block.feedStop = true → exec .feedStopAssert s = .next s) ∧
     (s.block.feedStop = false → ∃ t, exec .feedStopAssert s = .next t ∧ t.block.feedStop = true ∧
       t.block.clock = s.block.clock ∧ t.block.tdu = s.block.tdu ∧ t.block.bus = s.block.bus ∧
       t.block.rcs = s.block.rcs ∧ t.block.cmc = s.block.cmc ∧
       ∀ l, (t.block.line l).lsc.state =
           (match (s.block.line l).lsc.state with
             | .firing | .hold => .rundown
             | x => x) ∧
         (s.block.inService l = true → (t.block.line l).lsc.cause = .feedstop ∧
           (t.block.line l).lsc.burnout = 0) ∧
         (s.block.inService l = false → (t.block.line l).lsc.cause = (s.block.line l).lsc.cause ∧
           (t.block.line l).lsc.burnout = (s.block.line l).lsc.burnout) ∧
         ((s.block.line l).lsc.state = .warmup → (t.block.line l).lsc.feedRequested = false) ∧
         (t.block.line l).gfu.phase = .none ∧ (t.block.line l).gfu.owed = false ∧
         (t.block.line l).gfu.command = .retract ∧
         t.block.pendingWith .feedstop (lineNumber l) [byte (s.block.line l).lsc.state.code])) ∧
  (∀ s : State, ∃ t, exec .feedStopRelease s = .next t ∧ t = s.withBlock { s.block with feedStop := false } ∧
     ∀ (tag : Byte) (l : LineId), s.block.linkIdle = true → (s.block.line l).lsc.state = .warmup →
       s.block.feedStop = true →
       exec (.lineFeed tag (byte (lineNumber l))) s =
         .next (s.withBlock (s.block.repliedRefused .lineFeed tag .inhibited 0)) ∧
       ∃ u, exec (.lineFeed tag (byte (lineNumber l))) t = .next u ∧
         (u.block.line l).lsc.feedRequested = true ∧
         t.block.onlyReplied u.block .lineFeed tag (.done [byte 1]))

/-- R7, R35: FIRING_ENTRY on a WARMUP line whose nine conditions hold enters FIRING at the lesser of the
minimum load and the ceiling, with the pacer accumulator 0 and the retract latch cleared; otherwise it records
the unmet conditions, in order; in any other state it changes nothing. That the command alone makes this test of
the second tick, and writes the conditions it finds unmet, is the model's reading (notes/assumptions/2.md). -/
def Obligations.FiringEntryNeedsEveryCondition : Prop :=
  ∀ (s : State) (l : LineId),
    ((s.block.line l).lsc.state ≠ .warmup → exec (.firingEntry l) s = .next s) ∧
    ((s.block.line l).lsc.state = .warmup → (∃ c, s.block.condHolds l c = false) →
      exec (.firingEntry l) s = .next (s.withBlock (s.block.modLsc l fun x =>
        { x with pendingConds := allFiringConds.filter fun c => !s.block.condHolds l c }))) ∧
    ((s.block.line l).lsc.state = .warmup → (∀ c, s.block.condHolds l c = true) →
      ∃ t, exec (.firingEntry l) s = .next t ∧ (t.block.line l).lsc.state = .firing ∧
        (t.block.line l).gfu.load = min (s.block.lineParams l).minLoad (s.block.line l).gfu.ceiling ∧
        (t.block.line l).gfu.lastFiring = (t.block.line l).gfu.load ∧ (t.block.line l).gfu.acc = 0 ∧
        (t.block.line l).gfu.latch = false ∧ (t.block.line l).lsc.pendingConds = [] ∧
        s.block.onlyLine t.block l ∧ s.block.reportsKept t.block)

/-- R8, R9, R14: HOLD_RETURN, HOLD_LIMIT and BURNOUT_END. A HOLD line whose confirm timer has reached the confirm time
returns to FIRING; one that has not and whose hold timer has reached the hold limit enters RUNDOWN with HOLD_LIMIT
raised; a RUNDOWN line whose burnout timer has reached the burnout time enters IDLE. Short of its limit each changes
nothing. That each command makes its one test alone is the model's reading (notes/assumptions/2.md), and so is the
burnout timer 0 in IDLE (notes/assumptions/25.md). R3, R7, R8, R9, R14: a SECOND_TICK that ends no minute, on a line
without a stroke that times out and without a rundown that waits (notes/assumptions/48.md), counts the confirm timer
while hot, to at most 600, and clears it otherwise; it counts the hold timer in HOLD and the burnout timer in RUNDOWN,
and then makes the same transitions; a WARMUP line enters FIRING where every condition holds with the new confirm
timer, and otherwise records those that do not. -/
def Obligations.HoldAndBurnoutEnds : Prop :=
  (∀ (s : State) (l : LineId),
     let x := (s.block.line l).lsc
     let p := s.block.lineParams l
     (x.state = .hold → p.confirmTime ≤ x.confirm → ∃ t, exec (.holdReturn l) s = .next t ∧
       (t.block.line l).lsc.state = .firing ∧ (t.block.line l).lsc.hold = 0 ∧
       (t.block.line l).lsc.confirm = x.confirm ∧ (t.block.line l).gfu.acc = 0 ∧
       s.block.onlyLine t.block l ∧ t.block.rcs = s.block.rcs) ∧
     (x.confirm < p.confirmTime → exec (.holdReturn l) s = .next s) ∧
     (x.state = .hold → x.confirm < p.confirmTime → p.holdLimit ≤ x.hold →
       ∃ t, exec (.holdLimit l) s = .next t ∧ (t.block.line l).lsc.state = .rundown ∧
         (t.block.line l).lsc.cause = .holdLimit ∧ (t.block.line l).lsc.hold = 0 ∧
         (t.block.line l).lsc.burnout = 0 ∧ t.block.pendingWith .holdLimit (lineNumber l) [] ∧
         s.block.onlyLine t.block l ∧ t.block.rcs = s.block.rcs) ∧
     (x.hold < p.holdLimit → exec (.holdLimit l) s = .next s) ∧
     (x.state = .rundown → p.burnoutTime ≤ x.burnout → ∃ t, exec (.burnoutEnd l) s = .next t ∧
       (t.block.line l).lsc.state = .idle ∧ (t.block.line l).lsc.burnout = 0 ∧
       (t.block.line l).lsc.cause = x.cause ∧ (t.block.line l).gfu.lastFiring = 0 ∧
       (t.block.line l).ccu.demand = 0 ∧ (t.block.line l).dau.episode = none ∧
       s.block.onlyLine t.block l) ∧
     (x.burnout < p.burnoutTime → exec (.burnoutEnd l) s = .next s)) ∧
  (∀ (s : State) (order : List Owner) (l : LineId),
     let x := (s.block.line l).lsc
     let g := (s.block.line l).gfu
     let p := s.block.lineParams l
     let c := if x.hot then min 600 (x.confirm + 1) else 0
     let holds (d : FiringCond) : Bool :=
       if d = .temperature then decide (p.confirmTime ≤ c) else s.block.condHolds l d
     s.block.clock.late = [] → (s.block.clock.time = none ∨
       ∃ a b : Time, s.block.clock.time = some a ∧ a.advance = some b ∧ b.second % 60 ≠ 0) →
     (g.phase = .none ∨ g.age + 1 < p.strokeTimeout) → x.limitDue = none →
     ∃ t, exec (.secondTick order) s = .next t ∧
       let y := (t.block.line l).lsc
       (x.state = .idle ∨ x.state = .firing → y = { x with confirm := c }) ∧
       (x.state = .warmup → (∀ d, holds d = true) → y.state = .firing ∧ y.confirm = c ∧ y.pendingConds = []) ∧
       (x.state = .warmup → (∃ d, holds d = false) →
         y = { x with confirm := c, pendingConds := allFiringConds.filter fun d => !holds d }) ∧
       (x.state = .hold → p.confirmTime ≤ c → y.state = .firing ∧ y.hold = 0 ∧ y.confirm = c) ∧
       (x.state = .hold → c < p.confirmTime → x.hold + 1 < p.holdLimit →
         y = { x with confirm := c, hold := x.hold + 1 }) ∧
       (x.state = .hold → c < p.confirmTime → p.holdLimit ≤ x.hold + 1 →
         y.state = .rundown ∧ y.cause = .holdLimit ∧ y.hold = 0 ∧ y.burnout = 0 ∧
         t.block.pendingWith .holdLimit (lineNumber l) []) ∧
       (x.state = .rundown → x.burnout + 1 < p.burnoutTime →
         y = { x with confirm := c, burnout := x.burnout + 1 }) ∧
       (x.state = .rundown → p.burnoutTime ≤ x.burnout + 1 →
         y.state = .idle ∧ y.burnout = 0 ∧ y.cause = x.cause))

/-! ## Feeding -/

/-- R40, R42: STROKE_DUE in FIRING with the accumulator at or above 360000 takes 360000 off, and starts a stroke, or
none while FEED-STOP is asserted, or leaves one owed, or drops it with FEED_LAG. Outside FIRING, or below 360000,
nothing changes. R45, R46, R11: STROKE_TIMEOUT ends a stroke whose age has reached the stroke timeout, with RAM_FAULT
and the phase it was in; the third in a row takes a FIRING or HOLD line to RUNDOWN with FEED_FAULT. That each command
makes its one test alone is the model's reading (notes/assumptions/2.md). R39, R40, R42, R45: a SECOND_TICK with no
balance tick and no close, on a line without a rundown that waits, adds the stroke rate to the accumulator of a FIRING
line, counts the age of a stroke in flight, and starts the stroke that falls due or leaves it owed; in IDLE the rate
is 0 and the accumulator stays; a stroke whose age reaches the timeout there ends with RAM_FAULT. -/
def Obligations.StrokesStartOrTimeOut : Prop :=
  (∀ (s : State) (l : LineId),
     let g := (s.block.line l).gfu
     let f (h : Gfu → Gfu) := s.withBlock (s.block.modGfu l fun g => h { g with acc := g.acc - 360000 })
     ((s.block.line l).lsc.state ≠ .firing ∨ g.acc < 360000 → exec (.strokeDue l) s = .next s) ∧
     ((s.block.line l).lsc.state = .firing → 360000 ≤ g.acc →
       (g.phase = .none → s.block.feedStop = false → exec (.strokeDue l) s = .next (f fun g =>
         { g with phase := .extending, age := 0, latch := false })) ∧
       (g.phase = .none → s.block.feedStop = true → exec (.strokeDue l) s = .next (f fun g => g)) ∧
       (g.phase ≠ .none → g.owed = false → exec (.strokeDue l) s = .next (f fun g => { g with owed := true })) ∧
       (g.phase ≠ .none → g.owed = true → ∃ t, exec (.strokeDue l) s = .next t ∧
         (t.block.line l).gfu = { g with acc := g.acc - 360000, dropped := min 65535 (g.dropped + 1) } ∧
         t.block.pendingWith .feedLag (lineNumber l) [] ∧ s.block.onlyLine t.block l ∧
         t.block.rcs = s.block.rcs))) ∧
  (∀ (s : State) (l : LineId),
     let g := (s.block.line l).gfu
     (g.phase = .none ∨ g.age < (s.block.lineParams l).strokeTimeout →
       exec (.strokeTimeout l) s = .next s) ∧
     (g.phase ≠ .none → (s.block.lineParams l).strokeTimeout ≤ g.age →
       ∃ t, exec (.strokeTimeout l) s = .next t ∧ (t.block.line l).gfu.phase = .none ∧
         (t.block.line l).gfu.owed = false ∧ (t.block.line l).gfu.command = .retract ∧
         (t.block.line l).gfu.faults = min 3 (g.faults + 1) ∧
         (t.block.line l).gfu.ramFaults = min 65535 (g.ramFaults + 1) ∧
         (t.block.line l).gfu.fedMass = g.fedMass ∧
         t.block.pendingWith .ramFault (lineNumber l) [byte (if g.phase = .extending then 0 else 1)] ∧
         (s.block.inService l = true → 2 ≤ g.faults → (t.block.line l).lsc.state = .rundown ∧
           (t.block.line l).lsc.cause = .feedFault ∧ t.block.pendingWith .feedFault (lineNumber l) [byte 0]) ∧
         (g.faults < 2 → (t.block.line l).lsc = (s.block.line l).lsc) ∧
         s.block.onlyLine t.block l)) ∧
  (∀ (s : State) (order : List Owner) (l : LineId),
     let x := (s.block.line l).lsc
     let g := (s.block.line l).gfu
     let p := s.block.lineParams l
     let n := g.load * p.ratedHeat / 1000 * 3600 / g.lhv * 100 / p.strokeMass
     let age := if g.phase = .none then g.age else min 600 (g.age + 1)
     ((s.block.clock.time = none ∧ s.block.clock.phase < 5) ∨
       ∃ a b : Time, s.block.clock.time = some a ∧ a.advance = some b ∧ b.second % 6 ≠ 0) →
     s.block.clock.late = [] → x.limitDue = none →
     ∃ t, exec (.secondTick order) s = .next t ∧
       let h := (t.block.line l).gfu
       ((g.phase = .none ∨ age < p.strokeTimeout) →
         (x.state = .idle → h = { g with rate := 0, age := age }) ∧
         (x.state = .firing → g.acc + n < 360000 → h = { g with rate := n, acc := g.acc + n, age := age }) ∧
         (x.state = .firing → 360000 ≤ g.acc + n → g.phase = .none → s.block.feedStop = false →
           h = { g with rate := n, acc := g.acc + n - 360000, phase := .extending, age := 0, latch := false }) ∧
         (x.state = .firing → 360000 ≤ g.acc + n → g.phase ≠ .none → g.owed = false →
           h = { g with rate := n, acc := g.acc + n - 360000, age := age, owed := true })) ∧
       (x.state = .idle ∨ x.state = .firing → g.phase ≠ .none → p.strokeTimeout ≤ age →
         h.ramFaults = min 65535 (g.ramFaults + 1) ∧ h.faults = min 3 (g.faults + 1) ∧
         t.block.pendingWith .ramFault (lineNumber l) [byte (if g.phase = .extending then 0 else 1)]))

/-- R52: every step keeps every line's LHV estimate within 5000 and 16000. R35: every step keeps every line's
load at 0 outside FIRING and at or below its effective ceiling. -/
def Obligations.LhvEstimateStaysInRange : Prop :=
  (∀ s t : State, s.block.lhvOk = true → step s = .next t → t.block.lhvOk = true) ∧
  (∀ s t : State, s.block.loadOk = true → step s = .next t → t.block.loadOk = true)

/-! ## Emission, cleaning, deviation -/

/-- R65, R66: a pollutant's minute holds a normalized value, of at most 65535, exactly when its status is VALID; and
it is VALID exactly when the line was in FIRING or HOLD, the close was not cut, O2 was measured and at most 180, the
raw value was measured and, for a WET basis, H2O was measured and at most 400. The value is the raw one corrected for
O2 where it is above the reference and, on a WET basis, for H2O, rounded once; above 65535 it is stored as 65535, and
exactly then the minute is OVER. R85 to R87: the minute work of a line in FIRING or HOLD takes the acid index and the
trim from the VALID values of SO2 and HCl, holds both where neither is VALID, and forms the demand from the base, the
last firing load and the trim, within D_max; in any other state it changes nothing. R91 to R93: the at-max count; from
the third at-max work on the reagent ceiling falls, with REAGENT_LIMIT at the third, and below 900 ‰ of D_max it rises
by its step. R94, R95: without ANALYZER in the causes a qualified mean above 900 ‰ of its limit lowers the guard
ceiling and starts stepping, with GUARD_ACTIVE where it was 0; with none above it, stepping is 0 and the guard rises
where all qualified means lie below 800 ‰. R97: the effective ceiling is then its least term. R85: a minute close and
a hand-over are paired in order of arrival: one that finds the other kind waiting takes the oldest of it and the
minute work runs on that hand-over; else it is added at the end. R51 to R53: a minute close at the GFU adds its slot
to the ring of 30 and empties the open minute; the estimator over the usable slots is then FEW below 10 or LIGHT below
three stroke masses, with the estimate held, or moves it by a quarter of the way to the clamped raw value, UPDATED,
LOW or HIGH; that the last raw value is the clamped one is the model's choice (notes/assumptions/19.md). -/
def Obligations.MinutesAreJudgedAndFormTheDemand : Prop :=
  (∀ (counted cut wet : Bool) (o2 h2o raw : Option Nat) (ref : Nat),
     let m := polMinute counted cut wet o2 h2o raw ref
     (m.cn.isSome = true ↔ m.status = .valid) ∧ (∀ c, m.cn = some c → c ≤ 65535) ∧
     (m.status = .valid ↔ counted = true ∧ cut = false ∧ (∃ o, o2 = some o ∧ o ≤ 180) ∧ raw.isSome = true ∧
       (wet = true → ∃ h, h2o = some h ∧ h ≤ 400)) ∧
     (m.status = .valid → ∀ c o : Nat, raw = some c → o2 = some o →
       let value (v : Nat) : Prop := m.cn = some (min 65535 v) ∧ (m.overRange = true ↔ 65535 < v)
       let rounded (x y : Nat) : Nat := (2 * x + y) / (2 * y)
       (wet = true → ∀ h, h2o = some h →
         (ref < o → value (rounded (c * 1000 * (210 - ref)) ((1000 - h) * (210 - o)))) ∧
         (o ≤ ref → value (rounded (c * 1000) (1000 - h)))) ∧
       (wet = false → (ref < o → value (rounded (c * (210 - ref)) (210 - o))) ∧ (o ≤ ref → value c))) ∧
     (m.status ≠ .valid → m.overRange = false)) ∧
  (∀ (b : Block) (l : LineId) (h : HandOver),
     (b.inService l = false → b.minuteWork l h = b) ∧
     (b.inService l = true →
       let t := b.minuteWork l h
       let p := b.lineParams l
       let c := (b.line l).ccu
       let d := (t.line l).ccu
       let limit (x : Pollutant) : Nat := (b.cmc.params.quantity.get x).hhLimit
       let load := (b.line l).gfu.lastFiring
       let index (m : PolMinute) (x : Pollutant) : Option Nat :=
         m.cn.map fun cn => min 65535 (cn * 1000 / limit x)
       let taken (i : Nat) : Prop := d.acidIndex = some i ∧
         d.trim = if p.acidThreshold < i then min 4000 (p.gain * (i - p.acidThreshold) / 1000) else 0
       let mean (x : Pollutant) : Option Nat :=
         if 5 ≤ (h.means.get x).count then (h.means.get x).mean else none
       let above (x : Pollutant) : Prop := ∃ m, mean x = some m ∧ limit x * 900 / 1000 < m
       (index h.so2 .so2 = none → index h.hcl .hcl = none → d.acidIndex = c.acidIndex ∧ d.trim = c.trim) ∧
       (∀ i, index h.so2 .so2 = some i → index h.hcl .hcl = none → taken i) ∧
       (∀ i, index h.so2 .so2 = none → index h.hcl .hcl = some i → taken i) ∧
       (∀ i j, index h.so2 .so2 = some i → index h.hcl .hcl = some j → taken (max i j)) ∧
       d.demand = min p.dMax (p.base * load / 1000 + d.trim) ∧
       d.atMax = (if d.demand = p.dMax then min 255 (c.atMax + 1) else 0) ∧
       (3 ≤ d.atMax → d.reagent = min c.reagent (max p.minLoad (min c.reagent load - p.reagentStep)) ∧
         d.lowerings = min 65535 (c.lowerings + 1) ∧ d.releases = c.releases) ∧
       (d.atMax = 3 → t.pendingWith .reagentLimit (lineNumber l) (u16 d.reagent)) ∧
       (d.demand < p.dMax * 900 / 1000 → d.reagent = min 1100 (c.reagent + p.reagentStep) ∧
         d.lowerings = c.lowerings ∧
         d.releases = if d.reagent = c.reagent then c.releases else min 65535 (c.releases + 1)) ∧
       (d.atMax < 3 → p.dMax * 900 / 1000 ≤ d.demand →
         d.reagent = c.reagent ∧ d.lowerings = c.lowerings ∧ d.releases = c.releases) ∧
       (c.causes.analyzer = true → d.guard = c.guard ∧ d.guardStepping = c.guardStepping) ∧
       (c.causes.analyzer = false → (∃ x, above x) → d.guardStepping = true ∧
         d.guard = min c.guard (max p.guardFloor (c.guard - p.guardStep)) ∧
         (c.guardStepping = false → ∀ x, above x → (∀ y, above y → x.index ≤ y.index) →
           t.pendingWith .guardActive (lineNumber l) (byte x.index :: u16 d.guard))) ∧
       (c.causes.analyzer = false → (∀ x, ¬above x) → d.guardStepping = false ∧
         ((∃ x, (mean x).isSome = true) → (∀ x m, mean x = some m → m < limit x * 800 / 1000) →
           d.guard = min 1100 (c.guard + p.guardStep)) ∧
         ((∀ x, mean x = none) ∨ (∃ x m, mean x = some m ∧ limit x * 800 / 1000 ≤ m) → d.guard = c.guard)) ∧
       d.effective = d.leastTerm)) ∧
  (∀ (b : Block) (l : LineId) (m : MinuteId) (h : HandOver),
     let waiting := (b.line l).ccu.unmatched
     let put (x : Unmatched) : Block := b.modCcu l fun c => { c with unmatched := x }
     (∀ g gs, waiting = .handOvers (g :: gs) → b.ccuHandOver l h = put (.handOvers (g :: gs ++ [h])) ∧
       b.ccuClose l m = (put (if gs = [] then .closes [] else .handOvers gs)).minuteWork l g) ∧
     (∀ k ks, waiting = .closes (k :: ks) → b.ccuClose l m = put (.closes (k :: ks ++ [m])) ∧
       b.ccuHandOver l h = (put (.closes ks)).minuteWork l h) ∧
     (waiting = .closes [] → b.ccuClose l m = put (.closes [m]) ∧ b.ccuHandOver l h = put (.handOvers [h]))) ∧
  (∀ (b : Block) (l : LineId) (m : MinuteId),
     let t := b.gfuClose l m
     let p := b.lineParams l
     let g := (b.line l).gfu
     let new := (t.line l).gfu
     let slot : RingSlot := if (b.line l).lsc.state = .firing then
         ⟨m, true, if g.steamCount = 0 then none else some (roundHalfUp g.steamSum g.steamCount), g.fedMass⟩
       else ⟨m, false, none, 0⟩
     let ring := (g.ring ++ [slot]).drop (g.ring.length + 1 - 30)
     let usable := ring.filter fun x => x.firing && x.steam.isSome
     let heat := (usable.map fun x => x.steam.getD 0 * p.hNet / 36 * 1000 / p.eta).sum
     let mass := (usable.map RingSlot.mass).sum
     let found := roundHalfUp (heat * 60) mass
     let raw := max 5000 (min found 16000)
     let closed : Gfu := { g with ring := ring, fedMass := 0, steamSum := 0, steamCount := 0, usable := usable.length }
     t = b.modGfu l (fun _ => new) ∧
     (usable.length < 10 → new = { closed with estResult := .few }) ∧
     (10 ≤ usable.length → mass < 3 * p.strokeMass → new = { closed with estResult := .light }) ∧
     (10 ≤ usable.length → 3 * p.strokeMass ≤ mass → new = { closed with
       estResult := if found < 5000 then .low else if 16000 < found then .high else .updated
       lastRaw := some raw
       lhv := if g.lhv ≤ raw then g.lhv + (raw - g.lhv) / 4 else g.lhv - (g.lhv - raw) / 4 }))

/-- R63 to R68: a minute close at the EAU writes the slot of its minute-of-half-hour: the line state, the pollutants
judged on the raw values of 9 samples or more, the fed mass, whether an episode was open in FIRING or HOLD, and the
cut; it empties the accumulators, and hands over the acid values and the running means of the table to the CCU. R59:
then a fit analyzer A becomes active again (also where the order has put the close of the tick that ends 2099 off and
the clock is UNSET, the model's choice, notes/assumptions/49.md). R69, R72, R73, R75: a half-hour close clears the
table. With no counted minute it enters no record; with any it enters one HALF_HOUR record under the next serial,
complete from 20 on. A partial one (1 to 19) counts as partial alone; a complete one adds each pollutant's valid
average, or one invalid count, to the day, and where the average is above the HH limit counts the exceedance and
raises EXCEEDANCE with the pollutant, the period and the index (of several, the last detail stands). R76, R77, R79: a
day close enters a DAY record where a half-hour was complete, with each pollutant's average of its valid half-hours,
DEFICIENT above 5 invalid ones and EXCEEDED above the daily limit, with their notices and tally, and empties the
accumulator; at the year rollover the tallies are then 0. R111, R112, R80: the rollover sets used to 0 and a restored
year to the new year, other day closes change nothing at the DAU, and a year change sets restored to 0 and leaves the
EAU. -/
def Obligations.HalfHourCloseEntersRecord : Prop :=
  (∀ (b : Block) (l : LineId) (m : MinuteId) (cut : Bool),
     let t := b.eauMinute l m cut
     let old := (b.line l).eau
     let new := (t.line l).eau
     let raw (x : Samples) : Option Nat := if 9 ≤ x.count then some (roundHalfUp x.sum x.count) else none
     let judged (x : Pollutant) : PolMinute :=
       polMinute (b.inService l) cut ((b.cmc.params.quantity.get x).basis == 1) (raw old.samples.o2)
         (raw old.samples.h2o) (raw (old.samples.pol.get x)) b.cmc.params.plant.refO2
     let slot : MinuteSlot := ⟨(b.line l).lsc.state, .tabulate judged, raw old.samples.o2, raw old.samples.h2o,
       old.mass, b.inService l && (b.line l).dau.episode.isSome, cut⟩
     let table := old.table.set (m.minute % 30) (some slot)
     let back : Prop := old.active = .b ∧ old.roleA.bound = true ∧ old.roleA.healthy = true ∧
       old.roleA.o2Fault = false
     let h : HandOver := ⟨m, judged .so2, judged .hcl, .tabulate fun x =>
       ⟨(validCns table x).length, if validCns table x = [] then none
         else some (roundHalfUp (validCns table x).sum (validCns table x).length)⟩⟩
     let closed : Block := b.modEau l fun e => { e with
       table := table, last := some ⟨slot.pol, slot.o2, slot.h2o⟩, samples := .const ⟨0, 0⟩, mass := 0 }
     new.table = table ∧ new.last = some ⟨slot.pol, slot.o2, slot.h2o⟩ ∧ new.samples = .const ⟨0, 0⟩ ∧
     new.mass = 0 ∧ new.day = old.day ∧ new.tallies = old.tallies ∧ b.otherLinesKept t l ∧ t.rcs = b.rcs ∧
     (¬back → new.active = old.active ∧ t = closed.ccuHandOver l h) ∧
     (back → new.active = .a ∧ t.pendingWith .analyzerSwitch (lineNumber l) [byte 0] ∧
       (t.line l).ccu = ((closed.ccuHandOver l h).line l).ccu)) ∧
  (∀ (b : Block) (l : LineId) (y d i : Nat) (cut : Bool),
     let n := (countedSlots (b.line l).eau.table).length
     let t := b.eauHalfHour l y d i cut
     let old := (b.line l).eau
     let new := (t.line l).eau
     let mean (x : Pollutant) : Nat := roundHalfUp (validCns old.table x).sum (validCns old.table x).length
     let valid (x : Pollutant) : Prop := 20 ≤ (validCns old.table x).length
     let high (x : Pollutant) : Prop := valid x ∧ (b.cmc.params.quantity.get x).hhLimit < mean x
     new.table = emptyTable ∧
     (n = 0 → t.rcs = b.rcs ∧ t.notices = b.notices ∧ new.day = old.day ∧ new.tallies = old.tallies) ∧
     (1 ≤ n → ∃ r, t.rcs.records.getLast? = some ⟨b.rcs.nextSerial, l, .halfHour r⟩ ∧
       r.year = y ∧ r.day = d ∧ r.index = i ∧ r.counted = n ∧ r.cut = cut ∧
       r.allowanceUsed = (b.line l).dau.used ∧ r.complete = decide (20 ≤ n) ∧
       ∀ x, (r.quantities.pol.get x).valid = decide (20 ≤ n ∧ valid x) ∧
         (r.quantities.pol.get x).exceeded = decide (20 ≤ n ∧ high x) ∧
         (r.quantities.pol.get x).average = if validCns old.table x = [] then none else some (mean x)) ∧
     (1 ≤ n → n < 20 → new.day = { old.day with partials := min 255 (old.day.partials + 1) } ∧
       new.tallies = old.tallies) ∧
     (20 ≤ n → new.day.complete = min 255 (old.day.complete + 1) ∧ new.day.partials = old.day.partials ∧
       ∀ x, let a := old.day.pol.get x
         (valid x → new.day.pol.get x = ⟨a.sum + mean x, min 255 (a.valid + 1), a.invalid⟩) ∧
         (¬valid x → new.day.pol.get x = ⟨a.sum, a.valid, min 255 (a.invalid + 1)⟩) ∧
         (high x → new.tallies.get x = min 65535 (old.tallies.get x + 1)) ∧
         (¬high x → new.tallies.get x = old.tallies.get x) ∧
         (high x → (∀ z, high z → z.index ≤ x.index) →
           t.pendingWith .exceedance (lineNumber l) [byte x.index, byte 0, byte i]))) ∧
  (∀ (b : Block) (l : LineId) (y d : Nat) (rollover cut : Bool),
     let t := b.eauDay l y d rollover cut
     let old := (b.line l).eau
     let new := (t.line l).eau
     let average (x : Pollutant) : Option Nat := if (old.day.pol.get x).valid = 0 then none
       else some (roundHalfUp (old.day.pol.get x).sum (old.day.pol.get x).valid)
     let short (x : Pollutant) : Prop := 5 < (old.day.pol.get x).invalid
     let high (x : Pollutant) : Prop :=
       ∃ a, average x = some a ∧ (b.cmc.params.quantity.get x).dailyLimit < a
     new.day = ⟨0, 0, .const ⟨0, 0, 0⟩⟩ ∧ new.table = old.table ∧
     (old.day.complete = 0 → t.rcs = b.rcs) ∧
     (1 ≤ old.day.complete → ∃ r, t.rcs.records.getLast? = some ⟨b.rcs.nextSerial, l, .day r⟩ ∧
       r.year = y ∧ r.day = d ∧ r.complete = old.day.complete ∧ r.partials = old.day.partials ∧ r.cut = cut ∧
       ∀ x, let q := r.pol.get x
         q.average = average x ∧ q.valid = (old.day.pol.get x).valid ∧ q.invalid = (old.day.pol.get x).invalid ∧
         (q.deficient = true ↔ short x) ∧ (q.exceeded = true ↔ high x)) ∧
     (∀ x, (rollover = true → new.tallies.get x = 0) ∧
       (rollover = false → high x → new.tallies.get x = min 65535 (old.tallies.get x + 1)) ∧
       (rollover = false → ¬high x → new.tallies.get x = old.tallies.get x) ∧
       (short x → (∀ z, short z → z.index ≤ x.index) →
         t.pendingWith .dayDeficient (lineNumber l) [byte x.index]) ∧
       (high x → (∀ z, high z → z.index ≤ x.index) →
         t.pendingWith .exceedance (lineNumber l) [byte x.index, byte 1]))) ∧
  (∀ (b : Block) (l : LineId) (y d z : Nat) (cut : Bool),
     let u := (b.line l).dau
     b.dauClose l (.day y d true cut) = b.modDau l (fun _ =>
       { u with used := 0, restoredYear := if u.restored then some (y + 1) else u.restoredYear }) ∧
     b.dauClose l (.day y d false cut) = b ∧
     b.dauClose l (.yearChange y z) = b.modDau l (fun _ => { u with restored := false }) ∧
     b.eauClose l (.yearChange y z) = b)

/-- R105 to R107: a minute close with an episode open on a line in FIRING or HOLD counts the minute in the episode and
in used, up to 3600. The limits it meets are set in the episode, announced, and delivered to the LSC as one rundown:
ALLOWANCE where used has just reached 3600, whether or not the episode limit is reached too, else EPISODE_LIMIT where
the episode's minutes reach it, else none; ALLOWANCE_LOW tells used where it has just reached 3240. R105: a minute
with no episode open, or outside FIRING and HOLD, changes nothing and delivers none. R108: the line state is as it was
when the DAU read it; the LSC takes the rundown after that, in FIRING and HOLD with its cause, while a line that has
entered RUNDOWN in between keeps its first cause, and the limit stays set. It may wait past the deliveries that
brought it; a LINE STOP or a FEED-STOP taken first then gives the cause, which the next second tick leaves, and with
none the tick takes it first (the form, a delivery of its own that may wait to the end of its instant, is the model's
choice, notes/assumptions/21.md and notes/assumptions/48.md). -/
def Obligations.DeviationMinuteCountsAgainstAllowance : Prop :=
  (∀ (b : Block) (l : LineId) (e : Episode) (m : MinuteId) (cut : Bool),
     (b.line l).dau.episode = some e → b.inService l = true → (b.line l).dau.used ≤ 3600 →
     let t := b.dauMinute l
     let used := (b.line l).dau.used
     let atLimit : Prop := (b.lineParams l).episodeLimit ≤ e.minutes + 1
     (t.line l).dau = { (b.line l).dau with used := min 3600 (used + 1), episode := (t.line l).dau.episode } ∧
     (∃ f, (t.line l).dau.episode = some f ∧ f.minutes = e.minutes + 1 ∧ f.openStamp = e.openStamp ∧
       f.causesSeen = e.causesSeen ∧ (used = 3599 → atLimit → f.limit = .both) ∧
       (used = 3599 → ¬atLimit → f.limit = .allowance) ∧ (used ≠ 3599 → atLimit → f.limit = .episodeLimit) ∧
       (used ≠ 3599 → ¬atLimit → f.limit = e.limit)) ∧
     (atLimit → t.pendingWith .episodeLimit (lineNumber l) [byte (e.minutes + 1)]) ∧
     (used = 3239 → t.pendingWith .allowanceLow (lineNumber l) (u16 3240)) ∧
     (used = 3599 → t.pendingWith .allowanceExhausted (lineNumber l) [byte (e.minutes + 1)]) ∧
     (used ≠ 3599 → used ≠ 3239 → ¬atLimit → t.notices = b.notices) ∧
     (t.line l).lsc = (b.line l).lsc ∧ (t.line l).gfu = (b.line l).gfu ∧ b.onlyLine t l ∧ t.rcs = b.rcs ∧
     (used = 3599 → b.dauRundown l (.minute m cut) = some .allowance) ∧
     (used ≠ 3599 → atLimit → b.dauRundown l (.minute m cut) = some .episodeLimit) ∧
     (used ≠ 3599 → ¬atLimit → b.dauRundown l (.minute m cut) = none)) ∧
  (∀ (b : Block) (l : LineId) (m : MinuteId) (cut : Bool),
     ((b.line l).dau.episode = none ∨ b.inService l = false) →
     b.dauMinute l = b ∧ b.dauRundown l (.minute m cut) = none) ∧
  (∀ (b : Block) (l : LineId) (c : RundownCause),
     (b.inService l = true → let t := b.takeRundown l c
       (t.line l).lsc.state = .rundown ∧ (t.line l).lsc.cause = c ∧ (t.line l).lsc.burnout = 0 ∧
       (t.line l).dau = (b.line l).dau ∧ t.notices = b.notices ∧ b.onlyLine t l) ∧
     ((b.line l).lsc.state = .rundown → b.takeRundown l c = b)) ∧
  (∀ (b : Block) (js : List Job) (l : LineId),
     let x := b.takeLimits.deliverAll js
     let t := b.deliver js
     (.limitLater l ∈ b.order ∨ (x.line l).lsc.limitDue = none → t.line l = x.line l) ∧
     ∀ c, (x.line l).lsc.limitDue = some c → .limitLater l ∉ b.order →
       (t.line l).lsc.limitDue = none ∧ (t.line l).dau = (x.line l).dau ∧
       (x.inService l = true → (t.line l).lsc.state = .rundown ∧ (t.line l).lsc.cause = c) ∧
       ((x.line l).lsc.state = .rundown → (t.line l).lsc.cause = (x.line l).lsc.cause ∧
         (t.line l).lsc.burnout = (x.line l).lsc.burnout)) ∧
  (∀ (s : State) (l : LineId) (c : RundownCause) (order : List Owner),
     s.block.clock.late = [] → (s.block.line l).lsc.limitDue = some c → s.block.inService l = true →
     let fell (t : State) (by_ : RundownCause) : Prop :=
       ((t.block.line l).lsc.state = .rundown ∨ (t.block.line l).lsc.state = .idle) ∧
       (t.block.line l).lsc.cause = by_
     let keeps (i : Instr) (by_ : RundownCause) : Prop := ∃ t u, exec i s = .next t ∧
       (t.block.line l).lsc.state = .rundown ∧ (t.block.line l).lsc.cause = by_ ∧
       (t.block.line l).lsc.limitDue = none ∧ exec (.secondTick order) t = .next u ∧ fell u by_
     (s.block.linkIdle = true → ∀ tag, keeps (.lineStop tag (byte (lineNumber l))) .host) ∧
     (s.block.feedStop = false → keeps .feedStopAssert .feedstop) ∧
     ∃ t, exec (.secondTick order) s = .next t ∧ fell t c)

/-- R113: ALLOWANCE RESTORE on an IDLE line for the current year stores used clamped to 3600, the restored year and
the five tallies, raises ALLOWANCE_LOW from 3240, and replies with what it stored (the year with no presence byte, the
model's reading, notes/assumptions/27.md); its refusals come in the order CLOCK, WRONG_STATE, WRONG_YEAR and change
nothing. Closes that were put off are taken before the figures are written (the model's choice,
notes/assumptions/49.md). That the reply stands after the NOTICE messages its own request has placed is the model's
choice (notes/assumptions/46.md). -/
def Obligations.AllowanceRestoreWritesFigures : Prop :=
  ∀ (s : State) (tag : Byte) (l : LineId) (y u a b c d e : Word16), s.block.linkIdle = true →
    let i := Instr.allowanceRestore tag (byte (lineNumber l)) y u a b c d e
    (s.block.clock.time = none →
      exec i s = .next (s.withBlock (s.block.repliedRefused .allowanceRestore tag .notReady 1))) ∧
    (∀ x, s.block.clock.time = some x → (s.block.line l).lsc.state ≠ .idle →
      exec i s = .next (s.withBlock (s.block.repliedRefused .allowanceRestore tag .wrongState 0))) ∧
    (∀ x, s.block.clock.time = some x → (s.block.line l).lsc.state = .idle → y.toNat ≠ x.year →
      exec i s = .next (s.withBlock (s.block.repliedRefused .allowanceRestore tag .wrongYear 0))) ∧
    (∀ x, s.block.clock.time = some x → (s.block.line l).lsc.state = .idle → y.toNat = x.year →
      ∃ t, exec i s = .next t ∧ (t.block.line l).dau.used = min u.toNat 3600 ∧
        (t.block.line l).dau.restored = true ∧ (t.block.line l).dau.restoredYear = some x.year ∧
        t.block.allowanceRestored l = true ∧
        (t.block.line l).eau.tallies = ⟨a.toNat, b.toNat, c.toNat, d.toNat, e.toNat⟩ ∧
        (let taken := Block.deliverAll { s.block with clock := { s.block.clock with late := [] } } s.block.clock.late
         t.block.clock = { s.block.clock with late := [] } ∧ taken.otherLinesKept t.block l ∧
         (t.block.line l).dau.causes = (taken.line l).dau.causes ∧
         (t.block.line l).dau.closed = (taken.line l).dau.closed) ∧
        (3240 ≤ u.toNat → t.block.pendingWith .allowanceLow (lineNumber l) (u16 (min u.toNat 3600))) ∧
        (s.block.clock.late = [] → (t.block.line l).dau.causes = (s.block.line l).dau.causes ∧
          (t.block.line l).dau.closed = (s.block.line l).dau.closed ∧
          (u.toNat < 3240 → t.block.notices = s.block.notices) ∧ s.block.onlyLine t.block l) ∧
        t.block.lastReply .allowanceRestore tag (.done (u16 (min u.toNat 3600) ++ u16 a.toNat ++
          u16 b.toNat ++ u16 c.toNat ++ u16 d.toNat ++ u16 e.toNat ++ u16 x.year)))

/-! ## The steam balance -/

/-- R127, R128: with bounds in order and weights of at least 1, the allocations of the firing lines sum to the steam
placed on them, or to the sum of their lower or upper bounds where it lies outside them; each allocation lies within
its line's bounds. R128: between the sums the extra is shared in rounds. A line whose weighted share is at or above
its headroom receives its headroom and leaves, and the others are allocated among themselves the steam that is left;
where no line leaves each receives its share, and the leftover goes 1 unit each in line order. -/
def Obligations.AllocationsSumToTheSteamPlaced : Prop :=
  ∀ (fs : List FiringLine) (q : Nat), (fs.map FiringLine.line).Nodup →
    (∀ f ∈ fs, f.lo ≤ f.hi ∧ 1 ≤ f.weight) →
    (fs.map (allocate fs q)).sum = max (fs.map FiringLine.lo).sum (min q (fs.map FiringLine.hi).sum) ∧
    (∀ f ∈ fs, f.lo ≤ allocate fs q f ∧ allocate fs q f ≤ f.hi) ∧
    ((fs.map FiringLine.lo).sum < q → q < (fs.map FiringLine.hi).sum →
      let x := q - (fs.map FiringLine.lo).sum
      let share (f : FiringLine) : Nat := x * f.weight / (fs.map FiringLine.weight).sum
      let leaves (f : FiringLine) : Bool := decide (f.hi - f.lo ≤ share f)
      let left := fs.filter leaves
      let stay := fs.filter fun f => !leaves f
      (∀ f ∈ left, allocate fs q f = f.hi) ∧
      (left ≠ [] → ∀ f ∈ stay, allocate fs q f = allocate stay (q - (left.map FiringLine.hi).sum) f) ∧
      (left = [] → ∀ (gs hs : List FiringLine) (f : FiringLine), fs = gs ++ f :: hs →
        allocate fs q f = f.lo + share f + if gs.length < x - (fs.map share).sum then 1 else 0))

/-- R132: the balance law. With every weight in its range of 1 and more, every balance cycle ends with steam
allocated, uncontrolled and missing on one side equal to turbine targets after the cut, bypass target, trim and
unabsorbed steam on the other; and every step keeps the law on the figures held. -/
def Obligations.BalanceLawHolds : Prop :=
  (∀ b : Block, (∀ l, 1 ≤ (b.lineParams l).weight) → b.balanceCycle.balanceLaw) ∧
  (∀ s t : State, (∀ l, 1 ≤ (s.block.lineParams l).weight) → s.block.balanceLaw → step s = .next t →
    t.block.balanceLaw)

/-- R140: while RUNNING a balance cycle takes the schedule entries at or before now out of the queue; the latest
becomes the commitment, applied at the cycle's stamp, and the others are superseded; while UNSET, or with none due,
both stand. R121, R141, R142: the marks, the targets before the cut and the conversion shortfalls follow from the
commitment: heat from T2 first, then from T1 the electrical need T2 leaves. R122: the trim is 0 with no header pressure, no
firing line, or an error in the dead band, else the error beyond it times the gain, within the trim limit. R123,
R124: the uncontrolled steam of the lines in WARMUP, HOLD and RUNDOWN, the demand, and each firing line's bounds.
R125: a deficit is cut from T1, then T2, each to the floor of its mark; the rest is the residual. R126: the cuts of
FREE turbines add to the conversion shortfalls; short follows them, and COMMIT_SHORT tells of it where it was 0.
R127, R128: each firing line's figures are its bounds, its allocation of the steam left to place, and the load
target. R130, R131: surplus, bypass target, unabsorbed steam and saturated, with BYPASS_SAT where that was 0; the
setpoint is the target, at most the bypass maximum. R129, R36: each line in FIRING that the cycle counts stores its
load target and moves its load by at most a tenth of the ramp toward it, to at most its ceiling; any other line is
as before. R149: each turbine's target after the cut is the target less the cut; the setpoint moves toward it by at
most a tenth of the ramp in RUNUP, UNLOADING and ONLINE not frozen, stands where frozen, and is 0 in OFFLINE and
TRIPPED; an UNLOADING turbine left at 0 is OFFLINE. -/
def Obligations.CycleMovesWithinLimits : Prop :=
  (∀ b : Block,
     let t := b.balanceCycle
     let old := b.tdu.commitment
     (b.clock.time = none → t.tdu.queue = b.tdu.queue ∧ t.tdu.commitment = old) ∧
     ∀ x, b.clock.time = some x →
       let due (e : SchedEntry) : Bool := !(EffTime.mk x.year x.day (x.second / 60)).before e.time
       let gone := b.tdu.queue.filter due
       t.tdu.queue = b.tdu.queue.filter (fun e => !due e) ∧ (gone = [] → t.tdu.commitment = old) ∧
       (schedOk b.tdu.queue = true → ∀ e ∈ gone, (∀ f ∈ gone, f = e ∨ f.time.before e.time = true) →
         t.tdu.commitment = ⟨e.p, e.h, some e.time, some b.now, min 65535 (old.superseded + (gone.length - 1))⟩)) ∧
  (∀ b : Block,
     let t := b.balanceCycle
     let c := t.tdu.commitment
     let mark (u : TurbineId) : Mark := match (b.turbine u).state with
       | .runup => .warming
       | .online => if (b.turbine u).frozen then .frozen else .free
       | .offline | .unloading | .tripped => .zero
     let p := b.turbineParams .t1
     let q := b.turbineParams .t2
     let f1 := (b.turbine .t1).setpoint
     let f2 := (b.turbine .t2).setpoint
     let heatServed : Nat := match mark .t2 with
       | .free => if q.s0 + c.h * q.sigmaH / 100 ≤ q.sMax then c.h else (q.sMax - q.s0) * 100 / q.sigmaH
       | .frozen => min c.h ((f2 - q.s0) * 100 / q.sigmaH)
       | .warming | .zero => 0
     let power2 : Nat := match mark .t2 with
       | .free => (min (q.s0 + c.h * q.sigmaH / 100) q.sMax - q.s0) * 100 / q.sigma
       | .frozen => (f2 - q.s0) * 100 / q.sigma
       | .warming | .zero => 0
     let need := c.p - power2
     let served : Nat := match mark .t1 with
       | .free => if p.s0 + need * p.sigma / 100 ≤ p.sMax then need else (p.sMax - p.s0) * 100 / p.sigma
       | .frozen => min need ((f1 - p.s0) * 100 / p.sigma)
       | .warming | .zero => 0
     (∀ u, (t.turbine u).mark = mark u) ∧ t.tdu.heatConv = c.h - heatServed ∧ t.tdu.elConv = need - served ∧
     (t.turbine .t2).targetBefore = (match mark .t2 with
       | .free => min (q.s0 + c.h * q.sigmaH / 100) q.sMax
       | .frozen => f2
       | .warming => min q.sWarm q.sMax
       | .zero => 0) ∧
     (t.turbine .t1).targetBefore = (match mark .t1 with
       | .free => min (p.s0 + need * p.sigma / 100) p.sMax
       | .frozen => f1
       | .warming => min p.sWarm p.sMax
       | .zero => 0)) ∧
  (∀ b : Block,
     let t := b.balanceCycle
     t.blu.trim ≤ b.cmc.params.plant.tMax ∧ -(b.cmc.params.plant.tMax : Int) ≤ t.blu.trim ∧
     t.blu.setpoint = t.blu.target ∧ t.blu.setpoint ≤ b.cmc.params.plant.bypassMax ∧
     ∀ u, let x := b.turbine u
       ((x.state = .offline ∨ x.state = .tripped) → (t.turbine u).setpoint = 0) ∧
       ((x.state = .online ∧ x.frozen = true) → (t.turbine u).setpoint = x.setpoint) ∧
       (¬(x.state = .offline ∨ x.state = .tripped) →
         (t.turbine u).setpoint ≤ x.setpoint + (b.turbineParams u).ramp / 10 ∧
         x.setpoint ≤ (t.turbine u).setpoint + (b.turbineParams u).ramp / 10)) ∧
  (∀ b : Block,
     let t := b.balanceCycle
     let p := b.cmc.params.plant
     let new := t.blu
     let firing (l : LineId) : Prop := (b.blu.copies.get l).state = .firing
     let hi (l : LineId) : Nat := (b.blu.copies.get l).ceiling * (b.lineParams l).ratedSteam / 1000
     let lo (l : LineId) : Nat :=
       min (b.lineParams l).minLoad (b.blu.copies.get l).ceiling * (b.lineParams l).ratedSteam / 1000
     let lines : List FiringLine :=
       ([.l1, .l2, .l3].filter fun l => (b.blu.copies.get l).state == .firing).map fun l =>
         ⟨l, lo l, hi l, (b.lineParams l).weight, (b.lineParams l).ratedSteam⟩
     let steam (l : LineId) : Nat := match (b.blu.copies.get l).state with
       | .warmup | .hold | .rundown => (b.blu.copies.get l).steam.getD 0
       | .idle | .firing => 0
     let x1 := t.turbine .t1
     let x2 := t.turbine .t2
     let floor1 : Nat := match x1.mark with
       | .free => (b.turbineParams .t1).s0
       | .warming | .zero => 0
       | .frozen => x1.targetBefore
     let floor2 : Nat := match x2.mark with
       | .free => (b.turbineParams .t2).s0
       | .warming | .zero => 0
       | .frozen => x2.targetBefore
     let deficit : Int := new.demand - ((lines.map FiringLine.hi).sum + new.uncontrolled)
     let alloc (l : LineId) : Nat := ((new.figures.get l).map LineFigures.alloc).getD 0
     let surplus : Int := alloc .l1 + alloc .l2 + alloc .l3 + new.uncontrolled - new.demandCut
     (b.blu.pressure = none ∨ (∀ l, ¬firing l) → new.trim = 0) ∧
     (∀ x, b.blu.pressure = some x → (∃ l, firing l) →
       (x ≤ p.pSet + p.deadBand → p.pSet ≤ x + p.deadBand → new.trim = 0) ∧
       (x + p.deadBand < p.pSet →
         new.trim = (min ((p.pSet - x - p.deadBand) * p.kP / 100) p.tMax : Nat)) ∧
       (p.pSet + p.deadBand < x →
         new.trim = -(min ((x - p.pSet - p.deadBand) * p.kP / 100) p.tMax : Nat))) ∧
     new.uncontrolled = steam .l1 + steam .l2 + steam .l3 ∧
     new.demand = x1.targetBefore + x2.targetBefore + p.bMin + new.trim ∧
     (deficit ≤ 0 → new.cut1 = 0 ∧ new.cut2 = 0 ∧ new.residual = 0) ∧
     (∀ n : Nat, deficit = n → new.cut1 = min n (x1.targetBefore - floor1) ∧
       new.cut2 = min (n - new.cut1) (x2.targetBefore - floor2) ∧ new.residual = n - new.cut1 - new.cut2) ∧
     new.demandCut = new.demand - new.cut1 - new.cut2 ∧
     new.elShort = t.tdu.elConv +
       (if x1.mark = .free then new.cut1 * 100 / (b.turbineParams .t1).sigma else 0) ∧
     new.heatShort = t.tdu.heatConv +
       (if x2.mark = .free then new.cut2 * 100 / (b.turbineParams .t2).sigmaH else 0) ∧
     (new.short = true ↔ 0 < new.elShort ∨ 0 < new.heatShort) ∧
     (b.blu.short = false → new.short = true →
       t.pendingWith .commitShort 0 [byte (if 0 < new.elShort then 0 else 1)]) ∧
     (b.blu.short = true ∨ new.short = false → t.notice .commitShort 0 = b.notice .commitShort 0) ∧
     (∀ l, ¬firing l → new.figures.get l = none) ∧
     (∀ f ∈ lines, let a := allocate lines (new.demandCut - new.uncontrolled).toNat f
       new.figures.get f.line = some ⟨f.lo, f.hi, a, a * 1000 / f.rated⟩) ∧
     new.surplus = surplus.toNat ∧ new.target = min (p.bMin + new.surplus) p.bypassMax ∧
     new.unabsorbed = p.bMin + new.surplus - new.target ∧ (new.saturated = true ↔ 0 < new.unabsorbed) ∧
     (b.blu.saturated = false → new.saturated = true → t.pendingWith .bypassSat 0 (u32 new.unabsorbed)) ∧
     (b.blu.saturated = true ∨ new.saturated = false → t.notice .bypassSat 0 = b.notice .bypassSat 0) ∧
     new.stamp = some b.now ∧ new.copies = b.blu.copies ∧ new.pressure = b.blu.pressure ∧ new.flow = b.blu.flow ∧
     x1.targetAfter = x1.targetBefore - new.cut1 ∧ x2.targetAfter = x2.targetBefore - new.cut2) ∧
  (∀ (b : Block) (l : LineId),
     let t := b.balanceCycle
     let g := (b.line l).gfu
     let step := (b.lineParams l).ramp / 10
     ((b.line l).lsc.state ≠ .firing ∨ (b.blu.copies.get l).state ≠ .firing → t.line l = b.line l) ∧
     ((b.line l).lsc.state = .firing → (b.blu.copies.get l).state = .firing →
       ∃ f, t.blu.figures.get l = some f ∧
         let load : Nat := if g.load < f.target then min (min (g.load + step) f.target) g.ceiling
           else if f.target < g.load then min (max (g.load - step) f.target) g.ceiling
           else g.load
         t.line l = { b.line l with gfu := { g with target := f.target, load := load, lastFiring := load } })) ∧
  (∀ (b : Block) (u : TurbineId),
     let x := b.turbine u
     let y := b.balanceCycle.turbine u
     let step := (b.turbineParams u).ramp / 10
     let moved : Nat := if x.setpoint < y.targetAfter then min (x.setpoint + step) y.targetAfter
       else if y.targetAfter < x.setpoint then max (x.setpoint - step) y.targetAfter
       else x.setpoint
     y = { x with state := y.state, mark := y.mark, targetBefore := y.targetBefore
                  targetAfter := y.targetAfter, setpoint := y.setpoint } ∧
     (x.state = .runup ∨ x.state = .online ∧ x.frozen = false →
       y.setpoint = moved ∧ y.state = x.state) ∧
     (x.state = .online → x.frozen = true → y.setpoint = x.setpoint ∧ y.state = .online) ∧
     (x.state = .unloading → y.setpoint = moved ∧ y.state = if moved = 0 then .offline else .unloading) ∧
     (x.state = .offline ∨ x.state = .tripped → y.setpoint = 0 ∧ y.state = x.state))

/-! ## Turbines and the schedule -/

/-- R146: TURBINE START in OFFLINE with the role bound to a healthy station and the trip input released enters
RUNUP; its refusals come in the order UNBOUND, LOST, INHIBITED; in UNLOADING and TRIPPED it is refused
WRONG_STATE; in RUNUP and ONLINE it is DONE with no change. R148: TURBINE STOP by turbine state. -/
def Obligations.TurbineStartAndStop : Prop :=
  (∀ (s : State) (tag : Byte) (u : TurbineId), s.block.linkIdle = true →
     let i := Instr.turbineStart tag (byte (turbineNumber u))
     let x := s.block.turbine u
     let refused (c : RefusalCode) (d : Nat) : Prop :=
       exec i s = .next (s.withBlock (s.block.repliedRefused .turbineStart tag c d))
     (x.state = .offline → s.block.bound (.turbine u) = false → refused .unbound 0) ∧
     (x.state = .offline → s.block.bound (.turbine u) = true → s.block.healthy (.turbine u) = false →
       refused .notReady 7) ∧
     (x.state = .offline → s.block.healthy (.turbine u) = true → x.tripInput = true →
       refused .inhibited 0) ∧
     (x.state = .unloading ∨ x.state = .tripped → refused .wrongState 0) ∧
     (x.state = .runup ∨ x.state = .online →
       exec i s = .next (s.withBlock (s.block.repliedDone .turbineStart tag [byte x.state.code]))) ∧
     (x.state = .offline → s.block.healthy (.turbine u) = true → x.tripInput = false →
       exec i s = .next (s.withBlock ((s.block.modTurbine u fun x =>
         { x with state := .runup, runup := 0, qual := 0 }).repliedDone .turbineStart tag [byte 1])))) ∧
  (∀ (s : State) (tag : Byte) (u : TurbineId), s.block.linkIdle = true →
     let i := Instr.turbineStop tag (byte (turbineNumber u))
     let x := s.block.turbine u
     (x.state = .runup ∨ x.state = .online → exec i s = .next (s.withBlock ((s.block.modTurbine u fun x =>
       { x with state := .unloading, runup := 0, qual := 0, frozen := false }).repliedDone .turbineStop tag
         [byte 3]))) ∧
     (x.state = .offline ∨ x.state = .unloading ∨ x.state = .tripped →
       exec i s = .next (s.withBlock (s.block.repliedDone .turbineStop tag [byte x.state.code]))))

/-- R152: TRIP RESET is accepted in TRIPPED with the trip input RELEASED and the speed STOPPED, or VALID with
rpm × 10 below the rated speed; otherwise it is refused WRONG_STATE. Last trip and trips are kept. -/
def Obligations.TripResetNeedsALowSpeed : Prop :=
  ∀ (s : State) (tag : Byte) (u : TurbineId), s.block.linkIdle = true →
    let i := Instr.tripReset tag (byte (turbineNumber u))
    let x := s.block.turbine u
    let ok := x.state = .tripped ∧ x.tripInput = false ∧
      (x.speed.status = .stopped ∨
        x.speed.status = .valid ∧ x.speed.rpm * 10 < (s.block.turbineParams u).ratedSpeed)
    (ok → exec i s = .next (s.withBlock ((s.block.modTurbine u fun x =>
      { x with state := .offline }).repliedDone .tripReset tag [byte 0]))) ∧
    (¬ok → exec i s = .next (s.withBlock (s.block.repliedRefused .tripReset tag .wrongState 0)))

/-- R147: RUNUP_QUALIFIED takes a turbine in RUNUP with 10 qualified ticks and a CLOSED breaker ONLINE;
RUNUP_TIMEOUT takes one whose runup timer has reached the timeout OFFLINE, with RUNUP_TIMEOUT; its timer and count
are kept there (the model's choice, notes/assumptions/43.md). That each command makes its one test alone, and
changes nothing where the condition fails, is the model's reading (notes/assumptions/2.md). R147: a SECOND_TICK
counts a turbine in RUNUP as qualified, to at most 10, where its speed is VALID and within 99 % and 101 % of rated
(the products compared exactly, the model's choice, notes/assumptions/20.md), and sets the count to 0 otherwise;
with 10 and the breaker CLOSED it is then ONLINE with both counts 0; otherwise the runup timer counts, and at the
timeout the turbine is OFFLINE with setpoint 0 and RUNUP_TIMEOUT tells the speed. In any other state both counts
stand. -/
def Obligations.RunupEnds : Prop :=
  (∀ (s : State) (u : TurbineId),
     let x := s.block.turbine u
     (x.state = .runup → x.qual = 10 → x.station.breaker = .closed →
       exec (.runupQualified u) s = .next (s.withBlock (s.block.modTurbine u fun x =>
         { x with state := .online, runup := 0, qual := 0 }))) ∧
     (x.qual < 10 ∨ x.station.breaker ≠ .closed ∨ x.state ≠ .runup → exec (.runupQualified u) s = .next s) ∧
     (x.state = .runup → (s.block.turbineParams u).runupTimeout ≤ x.runup →
       ∃ t, exec (.runupTimeout u) s = .next t ∧
         t.block.tdu = (s.block.modTurbine u fun x => { x with state := .offline, setpoint := 0 }).tdu ∧
         t.block.pendingWith .runupTimeout (turbineNumber u)
           (byte x.speed.status.code :: u16 x.speed.rpm) ∧
         t.block.lines = s.block.lines ∧ t.block.blu = s.block.blu ∧ t.block.bus = s.block.bus ∧
         t.block.rcs = s.block.rcs ∧ t.block.cmc = s.block.cmc) ∧
     (x.runup < (s.block.turbineParams u).runupTimeout ∨ x.state ≠ .runup →
       exec (.runupTimeout u) s = .next s)) ∧
  (∀ (s : State) (order : List Owner) (u : TurbineId),
     let x := s.block.turbine u
     let p := s.block.turbineParams u
     let band : Prop := x.speed.status = .valid ∧ p.ratedSpeed * 99 ≤ x.speed.rpm * 100 ∧
       x.speed.rpm * 100 ≤ p.ratedSpeed * 101
     ∃ t, exec (.secondTick order) s = .next t ∧
       let y := t.block.turbine u
       (x.state ≠ .runup → y.runup = x.runup ∧ y.qual = x.qual) ∧
       (x.state = .runup → band → 9 ≤ x.qual → x.station.breaker = .closed →
         y.state = .online ∧ y.runup = 0 ∧ y.qual = 0) ∧
       (x.state = .runup → (¬band ∨ x.qual < 9 ∨ x.station.breaker ≠ .closed) →
         (band → y.qual = min 10 (x.qual + 1)) ∧ (¬band → y.qual = 0) ∧ y.runup = x.runup + 1 ∧
         (x.runup + 1 < p.runupTimeout → y.state = .runup) ∧
         (p.runupTimeout ≤ x.runup + 1 → y.state = .offline ∧ y.setpoint = 0 ∧
           t.block.pendingWith .runupTimeout (turbineNumber u)
             (byte x.speed.status.code :: u16 x.speed.rpm))))

/-- R150, R151, R133: a trip input asserted in RUNUP, ONLINE or UNLOADING trips the turbine, with the last trip
and TURBINE_TRIP, and the bypass setpoint rises by its setpoint to at most the bypass maximum; in OFFLINE and
TRIPPED only the level changes; a release changes the level alone. The other turbine and the lines are as
before. -/
def Obligations.TripAssertionTrips : Prop :=
  ∀ (s : State) (u : TurbineId),
    let x := s.block.turbine u
    (∃ t, exec (.tripRelease u) s = .next t ∧
      t = s.withBlock (s.block.modTurbine u fun x => { x with tripInput := false })) ∧
    (x.tripInput = true → exec (.tripAssert u) s = .next s) ∧
    (x.tripInput = false → x.state = .offline ∨ x.state = .tripped →
      exec (.tripAssert u) s = .next (s.withBlock (s.block.modTurbine u fun x => { x with tripInput := true }))) ∧
    (x.tripInput = false → x.state = .runup ∨ x.state = .online ∨ x.state = .unloading →
      ∃ t, exec (.tripAssert u) s = .next t ∧
        t.block.turbine u =
          { x with tripInput := true, state := .tripped, setpoint := 0, runup := 0, qual := 0, frozen := false
                   lastTrip := some ⟨.input, x.state, s.block.now⟩, trips := min 65535 (x.trips + 1) } ∧
        t.block.blu = { s.block.blu with
          setpoint := min (s.block.blu.setpoint + x.setpoint) s.block.cmc.params.plant.bypassMax } ∧
        (∀ v, v ≠ u → t.block.turbine v = s.block.turbine v) ∧
        t.block.pendingWith .turbineTrip (turbineNumber u) [byte 0, byte x.state.code] ∧
        t.block.lines = s.block.lines ∧ t.block.bus = s.block.bus ∧ t.block.rcs = s.block.rcs ∧
        t.block.cmc = s.block.cmc ∧ t.block.clock = s.block.clock)

/-- R154 to R157: an edge with no period timed starts one. An edge that completes a period of 1 to 65535
reference cycles starts the next and counts the period, and updates the over count. After an earlier complete
period the status is VALID and rpm the period's speed, where that is at most 65535; a first period keeps rpm and
makes the status MEASURING, but in FAST it stays as the last SLOW period left it (the model's reading of steps 2
and 4, notes/assumptions/42.md). A SLOW period below 4096 cycles moves the range to FAST with no period counted.
The second complete period in a row above the overspeed trips a turbine in RUNUP, ONLINE or UNLOADING. A count
that overflows in FAST moves the range to SLOW, MEASURING; in SLOW the speed is STOPPED with rpm 0. -/
def Obligations.SpeedIsMeasured : Prop :=
  ∀ (s : State) (u : TurbineId) (n : Nat),
    let x := s.block.turbine u
    let p := s.block.turbineParams u
    let c := x.speed.count + n
    let v := 60 * (if x.speed.range = .fast then 1000000 else 62500) / (c * p.teeth)
    let many := if p.overspeed < v then min 2 (x.speed.overCount + 1) else 0
    let up := x.speed.range = .slow ∧ c < 4096
    (x.speed.timing = false → exec (.spdRisingEdge u n) s = .next (s.withBlock (s.block.modTurbine u fun x =>
      { x with speed := { x.speed with timing := true, count := 0 } }))) ∧
    (x.speed.timing = true → 1 ≤ c → c ≤ 65535 → ∃ t, exec (.spdRisingEdge u n) s = .next t ∧
      let y := t.block.turbine u
      (1 ≤ x.speed.periods → v ≤ 65535 → ¬up → y.speed = ⟨x.speed.range, true, 0, 2, .valid, v, many⟩) ∧
      (1 ≤ x.speed.periods → v ≤ 65535 → up → y.speed = ⟨.fast, true, 0, 0, .valid, v, many⟩) ∧
      (x.speed.periods = 0 → x.speed.range = .fast →
        y.speed = ⟨.fast, true, 0, 1, x.speed.status, x.speed.rpm, many⟩) ∧
      (x.speed.periods = 0 → x.speed.range = .slow → 4096 ≤ c →
        y.speed = ⟨.slow, true, 0, 1, .measuring, x.speed.rpm, many⟩) ∧
      (x.speed.periods = 0 → up → y.speed = ⟨.fast, true, 0, 0, .measuring, x.speed.rpm, many⟩) ∧
      (many = 2 → x.state = .runup ∨ x.state = .online ∨ x.state = .unloading → y.state = .tripped ∧
        y.setpoint = 0 ∧ y.lastTrip = some ⟨.overspeed, x.state, s.block.now⟩ ∧
        t.block.pendingWith .turbineTrip (turbineNumber u) [byte 1, byte x.state.code]) ∧
      (many < 2 ∨ x.state = .offline ∨ x.state = .tripped →
        y = { x with speed := y.speed } ∧ t.block.notices = s.block.notices ∧ t.block.blu = s.block.blu) ∧
      t.block.lines = s.block.lines ∧ t.block.bus = s.block.bus ∧ t.block.rcs = s.block.rcs) ∧
    (x.speed.timing = true → x.speed.range = .fast → exec (.speedCountOverflow u) s =
      .next (s.withBlock (s.block.modTurbine u fun x =>
        { x with speed := ⟨.slow, false, 65535, 0, .measuring, x.speed.rpm, 0⟩ }))) ∧
    (x.speed.timing = true → x.speed.range = .slow → exec (.speedCountOverflow u) s =
      .next (s.withBlock (s.block.modTurbine u fun x =>
        { x with speed := ⟨.slow, false, 65535, 0, .stopped, 0, 0⟩ })))

/-- R138: SCHEDULE ADD keeps the queue in strictly rising order with at most 16 entries, holds the entry with
its clamped figures, replaces one of the same time, and is refused FULL with 16 held and RANGE for a time that
is none; a refusal leaves the queue. The outcome byte of its reply, 0 REPLACED and 1 ADDED, is the model's reading
(notes/assumptions/27.md). R137: every step keeps the queue in that order with at most 16 entries. -/
def Obligations.ScheduleAddKeepsOrder : Prop :=
  (∀ (s : State) (tag : Byte) (y d m p h : Word16), s.block.linkIdle = true →
    let i := Instr.scheduleAdd tag y d m p h
    let x : EffTime := ⟨y.toNat, d.toNat, m.toNat⟩
    let q := s.block.tdu.queue
    let e : SchedEntry := ⟨x, min p.toNat 1000, min h.toNat 600⟩
    (x.valid = false → exec i s = .next (s.withBlock (s.block.repliedRefused .scheduleAdd tag .range 0))) ∧
    (x.valid = true → (∀ f ∈ q, f.time ≠ x) → 16 ≤ q.length →
      exec i s = .next (s.withBlock (s.block.repliedRefused .scheduleAdd tag .full 0))) ∧
    (x.valid = true → ((∃ f ∈ q, f.time = x) ∨ q.length < 16) → ∃ t, exec i s = .next t ∧
      e ∈ t.block.tdu.queue ∧ (∀ f, f.time ≠ x → (f ∈ t.block.tdu.queue ↔ f ∈ q)) ∧
      (schedOk q = true → q.length ≤ 16 →
        schedOk t.block.tdu.queue = true ∧ t.block.tdu.queue.length ≤ 16) ∧
      t.block.tdu = { s.block.tdu with queue := t.block.tdu.queue } ∧
      t.block.lines = s.block.lines ∧ t.block.bus = s.block.bus ∧ t.block.clock = s.block.clock ∧
      s.block.onlyReplied t.block .scheduleAdd tag (.done (byte (if q.any fun f => f.time == x then 0 else 1) ::
        (u16 y.toNat ++ u16 d.toNat ++ u16 m.toNat ++ u16 e.p ++ u16 e.h ++ [byte t.block.tdu.queue.length]))))) ∧
  (∀ s t : State, schedOk s.block.tdu.queue = true → s.block.tdu.queue.length ≤ 16 → step s = .next t →
    schedOk t.block.tdu.queue = true ∧ t.block.tdu.queue.length ≤ 16)

/-- R139: SCHEDULE CANCEL removes every entry at or after its time and replies with the number removed and the
number left; SCHEDULE LIST carries the entries in order, the commitment and the superseded counter, and changes
nothing. The layout of the list (no count before the entries, a presence byte before the effective time, the
applied stamp absent by its own mark) is the model's reading (notes/assumptions/27.md). -/
def Obligations.ScheduleCancelAndList : Prop :=
  ∀ (s : State) (tag : Byte), s.block.linkIdle = true →
    (∀ y d m : Word16,
      let i := Instr.scheduleCancel tag y d m
      let x : EffTime := ⟨y.toNat, d.toNat, m.toNat⟩
      let kept := s.block.tdu.queue.filter fun e => e.time.before x
      (x.valid = false →
        exec i s = .next (s.withBlock (s.block.repliedRefused .scheduleCancel tag .range 0))) ∧
      (x.valid = true → exec i s = .next (s.withBlock
        ((s.block.modTdu fun t => { t with queue := kept }).repliedDone .scheduleCancel tag
          [byte (s.block.tdu.queue.length - kept.length), byte kept.length])))) ∧
    exec (.scheduleList tag) s = .next (s.withBlock (s.block.repliedDone .scheduleList tag
      (s.block.tdu.queue.flatMap (fun e => encEffTime e.time ++ u16 e.p ++ u16 e.h) ++
        (u16 s.block.tdu.commitment.p ++ u16 s.block.tdu.commitment.h ++
          optional 6 encEffTime s.block.tdu.commitment.time ++ encStamp? s.block.tdu.commitment.applied) ++
        u16 s.block.tdu.commitment.superseded)))

/-! ## The station bus -/

/-- R170, R171: with the bus FREE, BUS_GRANT grants the oldest queued frame, which leaves the queue; with none queued,
the POLL of the entry due first at or before the uptime, ties to the lower number, whose due time alone (no two
entries share a number, R175) advances from its previous value by the period of R171, 2 s where LOST, else 1, 5 or 10
by its role (with no bound, the model's choice, notes/assumptions/56.md); R164: its payload is the feeder's command,
the dosing setpoint, the turbine's or the bypass setpoint as it stands, and empty for any other role and for none;
then the walk's ROLL CALL, whose prefix leaves the stack, or, R180, its ASSIGN with the candidate's identifier and
number, whose attempts increase by 1. A grant starts SENDING with the driver enabled. With the bus busy, or with
nothing ready, nothing is granted. R180: a walk in WAIT_ROOM has no frame ready. As a frame leaves the queue, at that
same moment, its FORGET is placed and it takes the next prefix, or ends COMPLETE without one. A request that the link
takes at that moment first and that fills the freed place leaves it in WAIT_ROOM until the next frame leaves. What the
link takes at that moment is an operand of BUS_GRANT, which acts as the same bytes and messages do in commands of
their own (the model's choice, notes/assumptions/35.md). -/
def Obligations.ArbiterGrantsInOrder : Prop :=
  ∀ s : State,
    let x := s.block.bus
    let now := s.block.clock.uptime
    (x.state ≠ .free → exec (.busGrant []) s = .next s) ∧
    (x.state = .free → ∀ (v : Unanswered) (vs : List Unanswered), x.queue = v :: vs →
      let g := s.block.grant
      (∃ w, g.bus.state = .sending ∧ g.bus.driver = true ∧ g.bus.txn = some w ∧
        w.command = (if v.forget then .forget else .clear) ∧ w.address = v.address ∧
        w.frame = stationFrame v.address w.command [] ∧ g.bus.stations = x.stations ∧
        g.lines = s.block.lines ∧ g.bus.queue = vs ∧ g.bus.walk = x.walk ∧ g.link = s.block.link) ∧
      ∀ first : List LinkEvent,
        let u := first.foldl Block.linkEvent g
        (u.bus.walk.step ≠ .waitRoom ∨ 8 ≤ u.bus.queue.length →
          exec (.busGrant first) s = .next (s.withBlock u)) ∧
        (u.bus.walk.step = .waitRoom → u.bus.queue.length < 8 → ∀ c, u.bus.walk.candidate = some c →
          ∃ t, exec (.busGrant first) s = .next t ∧ t.block.bus.state = u.bus.state ∧
            t.block.bus.driver = u.bus.driver ∧ t.block.bus.txn = u.bus.txn ∧
            t.block.bus.stations = u.bus.stations ∧ t.block.lines = u.lines ∧
            t.block.bus.queue = u.bus.queue ++ [⟨true, c.number⟩] ∧
            (u.bus.walk.stack ≠ [] → t.block.link = u.link ∧
              t.block.bus.walk = { u.bus.walk with step := .rollCall, candidate := none }) ∧
            (u.bus.walk.stack = [] → t.block.bus.walk.active = false ∧ t.block.bus.walk.last =
              some ⟨.complete, u.bus.walk.found, u.bus.walk.dropped, u.bus.walk.duplicates⟩))) ∧
    (∀ v, exec (.hostByteReceived v) s = .next (s.withBlock (s.block.linkEvent (.byte v)))) ∧
    (∀ v, exec (.messageSent v) s = .next (s.withBlock (s.block.linkEvent (.messageSent v)))) ∧
    (x.state ≠ .free ∨ x.queue = [] → ∀ first : List LinkEvent,
      exec (.busGrant first) s = .next (s.withBlock (first.foldl Block.linkEvent s.block.grant))) ∧
    (x.state = .free → x.queue = [] → x.entriesOk = true → (∃ e ∈ x.stations, e.due ≤ now) →
      ∃ t e w, exec (.busGrant []) s = .next t ∧ e ∈ x.stations ∧ e.due ≤ now ∧
        (∀ f ∈ x.stations, f.due ≤ now → e.due < f.due ∨ e.due = f.due ∧ e.number ≤ f.number) ∧
        t.block.bus.state = .sending ∧ t.block.bus.driver = true ∧ t.block.bus.txn = some w ∧
        w.command = .poll ∧ w.address = e.number ∧ w.entryHeld = true ∧
        w.frame = stationFrame e.number .poll (match e.role with
          | some (.feeder l) => [byte (match (s.block.line l).gfu.command with
              | .hold => 0
              | .extend => 1
              | .retract => 2)]
          | some (.dosing l) => u16 (s.block.line l).ccu.demand
          | some (.turbine v) => u16 (s.block.turbine v).setpoint
          | some .bypass => u16 s.block.blu.setpoint
          | some (.furnace _) | some (.analyzerA _) | some (.analyzerB _) | some .header | none => []) ∧
        (let period : Nat := if e.lost then 2 else match e.role with
          | some (.feeder _) | some (.furnace _) | some .header | some (.turbine _) | some .bypass => 1
          | some (.analyzerA _) | some (.analyzerB _) | some (.dosing _) => 5
          | none => 10
         t.block.bus.stations = x.stations.map fun f =>
          if f.number = e.number then { f with due := f.due + period } else f) ∧
        t.block.bus.walk = x.walk ∧ t.block.lines = s.block.lines ∧ t.block.link = s.block.link) ∧
    (x.state = .free → x.queue = [] → (∀ e ∈ x.stations, now < e.due) → x.walk.active = true →
      (x.walk.step = .rollCall → ∀ (p : List Bool) (ps : List (List Bool)), x.walk.stack = p :: ps →
        ∃ t w, exec (.busGrant []) s = .next t ∧ t.block.bus.state = .sending ∧ t.block.bus.driver = true ∧
          t.block.bus.txn = some w ∧ w.command = .rollCall ∧ w.bits = p ∧
          t.block.bus.walk = { x.walk with stack := ps } ∧
          w.frame = stationFrame 0 .rollCall (byte p.length :: prefixBytes p)) ∧
      (x.walk.step = .assign → ∀ c, x.walk.candidate = some c →
        ∃ t w, exec (.busGrant []) s = .next t ∧ t.block.bus.state = .sending ∧ t.block.bus.driver = true ∧
          t.block.bus.txn = some w ∧ w.command = .assign ∧ w.address = 0 ∧ w.expected = c.number ∧
          w.frame = stationFrame 0 .assign (encIdent c.ident ++ [byte c.number]) ∧
          t.block.bus.walk = { x.walk with candidate := some { c with attempts := c.attempts + 1 } })) ∧
    (x.state = .free → x.queue = [] → (∀ e ∈ x.stations, now < e.due) →
      x.walk.active = false ∨ x.walk.step = .waitRoom → exec (.busGrant []) s = .next s)

/-- R166, R161: the stages of a frame without answer: the last stop bit starts the turnaround with the driver still
enabled, its end releases the driver (the bus then stands in WAITING, the model's reading, notes/assumptions/23.md),
and two character times later the bus is FREE, with the baud at its parameter. R166: a POLL, an ASSIGN and a ROLL CALL
have the same turnaround, and the part's own characters are ignored in it; at the release the bus is WAITING for the
answer, with the transaction in flight, and the first character, for a POLL and an ASSIGN the address character
expected, is the answer's, in RECEIVING. -/
def Obligations.UnansweredFrameStages : Prop :=
  (∀ (s : State) (w : Transaction), s.block.bus.state = .sending → s.block.bus.driver = true →
    s.block.bus.txn = some w → (w.command = .clear ∨ w.command = .forget) →
    ∃ t u v, exec .stationFrameSent s = .next t ∧ t.block.bus = { s.block.bus with state := .turnaround } ∧
      exec .turnaroundEnd t = .next u ∧
      u.block.bus = { s.block.bus with state := .waiting, driver := false } ∧
      exec .unansweredFrameEnd u = .next v ∧
      v = s.withBlock { s.block with bus := { s.block.bus with
        state := .free, driver := false, txn := none, baud := s.block.cmc.params.bus.baud } }) ∧
  (∀ (s : State) (w : Transaction), s.block.bus.state = .sending → s.block.bus.driver = true →
    s.block.bus.txn = some w → (w.command = .poll ∨ w.command = .assign ∨ w.command = .rollCall) → w.answer = [] →
    ∃ t u, exec .stationFrameSent s = .next t ∧
      t = s.withBlock { s.block with bus := { s.block.bus with state := .turnaround } } ∧
      (∀ c, exec (.stationCharReceived c) t = .next t) ∧ exec .turnaroundEnd t = .next u ∧
      u = s.withBlock { s.block with bus := { s.block.bus with state := .waiting, driver := false } } ∧
      exec .unansweredFrameEnd u = .next u ∧
      ∀ c : BusChar, (w.command = .rollCall ∨
          c.framing = false ∧ c.flag = true ∧ c.data = byte (0x80 + w.expected)) →
        exec (.stationCharReceived c) u = .next (s.withBlock { s.block with bus := { s.block.bus with
          state := .receiving, driver := false, txn := some { w with answer := [c] } } }))

/-- R160, R166: a character received with the bus FREE adds 1 to stray characters, saturating; one received while the
part drives the line, or while the bus settles, changes nothing. R167, R172: the first character of an answer to a
POLL of an entry still held decides BAD where it has a framing error, and CROSSED where it is not the address
character expected. The bus settles, and as it is decided, with the bus still settling (the model's choice,
notes/assumptions/39.md), the outcome adds 1 to its counter and to the miss count; short of the third miss nothing
else changes: no other entry, not the command queue, not the walk, none of the plant's blocks and no report.
SETTLE_END then frees the bus. -/
def Obligations.CharactersAreTakenOrCounted : Prop :=
  (∀ (s : State) (c : BusChar),
     (s.block.bus.driver = false → s.block.bus.state = .free → exec (.strayCharacter c) s =
       .next (s.withBlock (s.block.modBus fun x => { x with stray := min 65535 (x.stray + 1) }))) ∧
     (s.block.bus.driver = true → exec (.strayCharacter c) s = .next s ∧
       exec (.stationCharReceived c) s = .next s) ∧
     (s.block.bus.state = .settling → exec (.stationCharReceived c) s = .next s)) ∧
  (∀ (s : State) (c : BusChar) (w : Transaction) (e : Station),
     s.block.bus.state = .waiting → s.block.bus.driver = false → s.block.bus.txn = some w →
     w.command = .poll → w.answer = [] → w.entryHeld = true →
     s.block.station w.expected = some e → e.lost = false → e.misses < 2 →
     (c.framing = true ∨ c.flag = false ∨ c.data ≠ byte (0x80 + w.expected)) →
     ∃ t u, exec (.stationCharReceived c) s = .next t ∧ t.block.bus.state = .settling ∧
       t.block.station w.expected = some
         (if c.framing then { e with misses := e.misses + 1, bad := min 65535 (e.bad + 1) }
          else { e with misses := e.misses + 1, crossed := min 65535 (e.crossed + 1) }) ∧
       (∀ m, m ≠ w.expected → t.block.station m = s.block.station m) ∧
       t.block.bus.queue = s.block.bus.queue ∧ t.block.bus.walk = s.block.bus.walk ∧
       t.block.bus.stray = s.block.bus.stray ∧ t.block.bus.driver = false ∧
       t.block.lines = s.block.lines ∧ t.block.blu = s.block.blu ∧ t.block.tdu = s.block.tdu ∧
       t.block.cmc = s.block.cmc ∧ s.block.baseKept t.block ∧ s.block.reportsKept t.block ∧
       exec .settleEnd t = .next u ∧ u.block.bus.state = .free ∧ u.block.bus.txn = none ∧
       u.block.bus.stations = t.block.bus.stations)

/-- R162, R165, R167, R172: a whole POLL reply, in the frame of R162 with a payload that fits the kind of the
polled station, received character by character after the release, is GOOD: the bus is FREE at its last character,
good replies increase by 1, the miss count is 0, the station is healthy and the last good stamp is now. R173: a
LOST station returns with STATION_BACK. From a station bound to no role the values are discarded; those of a bound
one reach its owners, the return first: R43, R44 the feeder's stroke; R2, R8, R50, R117 the furnace's temperature
and steam; R57 to R61 the analyzer's samples, O2 fault and selection; R89, R90 the dosing rate and the DOSING
cause; R118 header pressure and bypass flow; R145 the turbine's copy. The bounds at which the steam sum and count
saturate, 4294967295 and an unknown amount above, are the model's choice (notes/assumptions/15.md). It speaks of
the characters as Block.busChar takes them, by which STATION_CHAR_RECEIVED acts, and of the delivery to the
owners. -/
def Obligations.WholePollReplyIsGood : Prop :=
  (∀ (b : Block) (w : Transaction) (e : Station) (k : StationKind) (p : List Byte),
     b.bus.state = .waiting → b.bus.driver = false → b.bus.txn = some w → w.command = .poll →
     w.answer = [] → w.entryHeld = true → w.kind = some k → w.expected ≤ 24 →
     b.station w.expected = some e → e.number = w.expected → replyFits k p = true →
     let t := (stationFrame (0x80 + w.expected) .poll p).foldl Block.busChar b
     t.bus.state = .free ∧ t.bus.txn = none ∧ t.station w.expected =
       some { e with misses := 0, lost := false, good := min 65535 (e.good + 1), lastGood := b.now } ∧
     (e.lost = true → t.pendingWith .stationBack e.number [byte (roleCode e.role)]) ∧
     (e.role = none → t.lines = b.lines ∧ t.blu = b.blu ∧ t.tdu = b.tdu ∧ (e.lost = false → b.reportsKept t)) ∧
     (∀ r, e.role = some r → ∃ b' : Block, t = b'.deliverReply r p e.lost ∧ b'.lines = b.lines ∧ b'.blu = b.blu ∧
       b'.tdu = b.tdu ∧ b'.clock = b.clock ∧ b'.cmc = b.cmc ∧ b'.feedStop = b.feedStop)) ∧
  (∀ (b : Block) (p : List Byte) (back : Bool) (l : LineId) (u : TurbineId),
     let got (r : Role) : Block := b.deliverReply r p back
     let g := (b.line l).gfu
     let v (i : Nat) : Nat := (byteAt p i).toNat
     (let t := got (.feeder l)
      let h := (t.line l).gfu
      let may : Prop := (b.line l).lsc.state = .firing ∧ b.feedStop = false
      (v 1 = 1 ∨ g.phase = .none ∨ g.phase = .extending ∧ v 0 < 2 ∨ g.phase = .retracting ∧ 0 < v 0 → t = b) ∧
      (v 1 = 0 → g.phase = .extending → v 0 = 2 →
        h = { g with phase := .retracting, fedMass := min 4294967295 (g.fedMass + (b.lineParams l).strokeMass) } ∧
        (t.line l).eau = { (b.line l).eau with mass :=
          (b.line l).eau.mass + if b.running then (b.lineParams l).strokeMass else 0 }) ∧
      (v 1 = 0 → g.phase = .retracting → v 0 = 0 → let done := min 65535 (g.completed + 1)
        (g.owed = true → may →
          h = { g with phase := .extending, age := 0, faults := 0, owed := false, completed := done, latch := false }) ∧
        (g.owed = false ∨ ¬may →
          h = { g with phase := .none, age := 0, faults := 0, owed := false, completed := done }))) ∧
     (let t := got (.furnace l)
      let hot : Prop := v 4 = 0 ∧ (b.lineParams l).tMin ≤ field p 0 2
      let x := (b.line l).lsc
      let y := (t.line l).lsc
      y.sample = some ⟨field p 0 2, if v 4 = 0 then .ok else .fault⟩ ∧ (y.hot = true ↔ hot) ∧
      (hot → y.confirm = x.confirm) ∧ (¬hot → y.confirm = 0) ∧
      (¬hot → x.state = .firing → y.state = .hold ∧ y.hold = 0 ∧
        t.pendingWith .tempLow (lineNumber l) [byte (if v 4 = 0 then 0 else 1)]) ∧
      (hot ∨ x.state ≠ .firing → y.state = x.state) ∧
      (v 4 = 0 → (t.line l).gfu.steamSum = min (4294967295 + Config.steamSumBeyond) (g.steamSum + field p 2 2) ∧
        (t.line l).gfu.steamCount = min (4294967295 + Config.steamCountBeyond) (g.steamCount + 1) ∧
        (t.blu.copies.get l).steam = some (field p 2 2)) ∧
      (v 4 ≠ 0 → (t.line l).gfu.steamSum = g.steamSum ∧ (t.line l).gfu.steamCount = g.steamCount ∧
        (t.blu.copies.get l).steam = (b.blu.copies.get l).steam) ∧
      (t.blu.copies.get l).stale = ((b.blu.copies.get l).stale && !back)) ∧
     (∀ a : Bool, let t := got (if a then .analyzerA l else .analyzerB l)
      let x := (b.line l).eau
      let y := (t.line l).eau
      let other := x.role !a
      let fresh : Prop := back = true ∧ x.active = .none ∧ (x.role a).bound = true ∧
        ¬(other.bound = true ∧ other.healthy = true)
      let cell (k : Nat) (q : Samples) : Samples :=
        if v (3 * k + 2) = 0 then ⟨q.sum + field p (3 * k) 2, q.count + 1⟩ else q
      (x.active = selOf a ∨ fresh → b.running = true →
        (∀ z, y.samples.pol.get z = cell (z.index - 1) (x.samples.pol.get z)) ∧
        y.samples.o2 = cell 5 x.samples.o2 ∧ y.samples.h2o = cell 6 x.samples.h2o) ∧
      (x.active ≠ selOf a ∧ back = false ∨ b.running = false → y.samples = x.samples) ∧
      y.role a = { x.role a with healthy := (x.role a).healthy || back, o2Fault := decide (2 ≤ v 17) } ∧
      (x.active = selOf a → v 17 < 2 → y.active = x.active) ∧
      (x.active = selOf a → 2 ≤ v 17 →
        (other.bound = true ∧ other.healthy = true ∧ other.o2Fault = false → y.active = selOf (!a) ∧
          y.switches = min 65535 (x.switches + 1) ∧
          t.pendingWith .analyzerSwitch (lineNumber l) [byte (selOf (!a)).code]) ∧
        (¬(other.bound = true ∧ other.healthy = true ∧ other.o2Fault = false) → y.active = x.active)) ∧
      (fresh → v 17 < 2 → y.active = selOf a ∧ y.switches = min 65535 (x.switches + 1) ∧
        (t.line l).dau.causes = { (b.line l).dau.causes with analyzer := false })) ∧
     (let t := got (.dosing l)
      let c := (b.line l).ccu
      let lost := c.dosingLost && !back
      (t.line l).ccu.actualRate = some (field p 0 2) ∧ (t.line l).ccu.dosingLost = lost ∧
      (t.line l).ccu.dosingFault = decide (v 2 ≠ 0) ∧
      ((c.dosingLost || c.dosingFault) ≠ (lost || decide (v 2 ≠ 0)) → (t.line l).dau.causes =
        { (b.line l).dau.causes with dosing := lost || decide (v 2 ≠ 0) }) ∧
      ((c.dosingLost || c.dosingFault) = (lost || decide (v 2 ≠ 0)) → (t.line l).dau = (b.line l).dau)) ∧
     (got .header = b.modBlu fun x => { x with pressure := if v 2 = 0 then some (field p 0 2) else none }) ∧
     (got .bypass = b.modBlu fun x => { x with flow := if v 2 = 0 then some (field p 0 2) else none }) ∧
     (got (.turbine u) = b.modTurbine u fun x =>
       { x with frozen := x.frozen && !back
                station := ⟨x.station.bound, x.station.healthy || back, some (field p 0 2),
                  if v 3 = 0 then (if v 2 = 0 then .opened else .closed) else .unknown,
                  some (if v 3 = 0 then .ok else .fault)⟩ }))

/-- R167, R172: RESPONSE_TIMEOUT with no character received, and ANSWER_GAP_TIMEOUT within an answer, decide MISS and
BAD (a BAD one acts as it is decided, with the bus still settling: the model's choice, notes/assumptions/39.md). At
the third failed poll in a row the station is LOST with the state it held as its return state, STATION_LOST tells the
outcome and the role, and the loss reaches the owners of its role. R11, R47: the FEEDER's takes a line in FIRING or
HOLD to RUNDOWN with FEED_FAULT, and aborts the stroke in every state. R4, R8, R117: the FURNACE's clears the sample,
hot and the confirm timer, takes FIRING to HOLD with TEMP_LOW, and marks the steam stale, also where none is held (the
model's choice, notes/assumptions/53.md). R56, R58, R59, R61: an analyzer's gives way to the other if that is
available, else to NONE with the ANALYZER cause. R90: the DOSING station's is a DOSING cause. R118: HEADER's and
BYPASS's make their values absent. R145: a turbine's makes the breaker UNKNOWN, and freezes it in ONLINE. -/
def Obligations.ThirdMissLosesTheStation : Prop :=
  ∀ (s : State) (w : Transaction) (e : Station),
    s.block.bus.txn = some w → w.command = .poll → w.entryHeld = true →
    s.block.station w.expected = some e → e.number = w.expected → e.lost = false → e.misses = 2 →
    let b := s.block
    let effect (t : Block) (code : Nat) : Prop :=
      t.pendingWith .stationLost w.expected [byte code, byte (roleCode e.role)] ∧
      match e.role with
      | none => t.lines = b.lines ∧ t.blu = b.blu ∧ t.tdu = b.tdu ∧ t.rcs = b.rcs
      | some .header => t.blu = { b.blu with pressure := none } ∧ t.lines = b.lines ∧ t.rcs = b.rcs
      | some .bypass => t.blu = { b.blu with flow := none } ∧ t.lines = b.lines ∧ t.rcs = b.rcs
      | some (.turbine u) => t.lines = b.lines ∧ t.blu = b.blu ∧ t.rcs = b.rcs ∧
        t.tdu = (b.modTurbine u fun x =>
          { x with station := { x.station with healthy := false, breaker := .unknown }
                   frozen := if x.state = .online then true else x.frozen }).tdu
      | some (.feeder l) => b.otherLinesKept t l ∧
        (b.inService l = true → (t.line l).lsc.state = .rundown ∧ (t.line l).lsc.cause = .feedFault ∧
          t.pendingWith .feedFault (lineNumber l) [byte 1]) ∧
        (b.inService l = false → (t.line l).lsc = (b.line l).lsc ∧
          (t.line l).gfu = { (b.line l).gfu with phase := .none, age := 0, owed := false, latch := true }) ∧
        (t.line l).gfu.phase = .none ∧ (t.line l).gfu.owed = false ∧ (t.line l).gfu.command = .retract ∧
        (t.line l).gfu.fedMass = (b.line l).gfu.fedMass ∧ (t.line l).gfu.faults = (b.line l).gfu.faults
      | some (.furnace l) => b.otherLinesKept t l ∧
        (t.line l).lsc.sample = none ∧ (t.line l).lsc.hot = false ∧ (t.line l).lsc.confirm = 0 ∧
        ((b.line l).lsc.state = .firing → (t.line l).lsc.state = .hold ∧ (t.line l).lsc.hold = 0 ∧
          (t.line l).gfu.load = 0 ∧ t.pendingWith .tempLow (lineNumber l) [byte 2]) ∧
        ((b.line l).lsc.state ≠ .firing →
          (t.line l).lsc = { (b.line l).lsc with sample := none, hot := false, confirm := 0 }) ∧
        (t.blu.copies.get l).stale = true ∧ (t.blu.copies.get l).steam = (b.blu.copies.get l).steam
      | some (.dosing l) => b.otherLinesKept t l ∧ (t.line l).ccu.dosingLost = true ∧
        (t.line l).ccu.dosingFault = (b.line l).ccu.dosingFault ∧
        ((b.line l).ccu.dosingLost = false → (b.line l).ccu.dosingFault = false →
          (t.line l).dau.causes = { (b.line l).dau.causes with dosing := true })
      | some (.analyzerA l) => b.otherLinesKept t l ∧
        (t.line l).eau.roleA = { (b.line l).eau.roleA with healthy := false } ∧
        ((b.line l).eau.active ≠ .a → (t.line l).eau.active = (b.line l).eau.active) ∧
        ((b.line l).eau.active = .a → (b.line l).eau.roleB.available = true → (t.line l).eau.active = .b) ∧
        ((b.line l).eau.active = .a → (b.line l).eau.roleB.available = false → (t.line l).eau.active = .none ∧
          (t.line l).dau.causes = { (b.line l).dau.causes with analyzer := true } ∧
          t.pendingWith .analyzerSwitch (lineNumber l) [byte 2])
      | some (.analyzerB l) => b.otherLinesKept t l ∧
        (t.line l).eau.roleB = { (b.line l).eau.roleB with healthy := false } ∧
        ((b.line l).eau.active ≠ .b → (t.line l).eau.active = (b.line l).eau.active) ∧
        ((b.line l).eau.active = .b → (b.line l).eau.roleA.available = true → (t.line l).eau.active = .a) ∧
        ((b.line l).eau.active = .b → (b.line l).eau.roleA.available = false → (t.line l).eau.active = .none ∧
          (t.line l).dau.causes = { (b.line l).dau.causes with analyzer := true } ∧
          t.pendingWith .analyzerSwitch (lineNumber l) [byte 2])
    (s.block.bus.state = .waiting → ∃ t, exec .responseTimeout s = .next t ∧ t.block.bus.state = .free ∧
      t.block.station w.expected =
        some { e with lost := true, returnBound := e.role.isSome, misses := 3
                      miss := min 65535 (e.miss + 1) } ∧ effect t.block 3) ∧
    (s.block.bus.state = .receiving → ∃ t, exec .answerGapTimeout s = .next t ∧
      t.block.bus.state = .settling ∧
      t.block.station w.expected =
        some { e with lost := true, returnBound := e.role.isSome, misses := 3
                      bad := min 65535 (e.bad + 1) } ∧ effect t.block 2)

/-- R168, R178, R179, R181, R183: at the end of a ROLL CALL's window the bus is FREE. Silence takes the next prefix of
the stack, or ends the walk COMPLETE with ENROL_DONE. A CLEAN answer, one whole IDENT reply, makes its identifier the
candidate of an ASSIGN: a rejoin under its number where an entry holds it, else with the lowest free number; an
unknown kind is dropped, and with no free number the walk ends FULL. Any other answer is GARBLED: a prefix shorter
than 48 bits puts its two extensions on the stack, the 0 branch on top, and one of 48 bits is abandoned with
DUPLICATE_ID. R180: a failed ASSIGN is tried again once; then the candidate is dropped, and but for a rejoin its
FORGET is placed, or the walk waits for room. R182: a GOOD one numbers the candidate: a rejoin keeps its entry, its
last good stamp too (the model's reading, notes/assumptions/55.md), another gains an entry, bound to the first role
whose stored binding names it if that role is unbound, takes its kind and meets its state rule; the prefix goes back
on the stack. -/
def Obligations.RollCallWindowEndsTheBranch : Prop :=
  (∀ (s : State) (w : Transaction), (s.block.bus.state = .waiting ∨ s.block.bus.state = .receiving) →
     s.block.bus.txn = some w → w.command = .rollCall →
     let k := s.block.bus.walk
     let held := s.block.bus.stations
     ∃ t, exec .rollCallWindowEnd s = .next t ∧ t.block.bus.state = .free ∧ t.block.bus.stations = held ∧
       t.block.bus.queue = s.block.bus.queue ∧ t.block.lines = s.block.lines ∧
       let j := t.block.bus.walk
       (w.answer = [] → k.stack ≠ [] → j = { k with step := .rollCall, candidate := none } ∧
         s.block.reportsKept t.block) ∧
       (w.answer = [] → k.stack = [] → j = { k with
           active := false, step := .none, candidate := none
           last := some ⟨.complete, k.found, k.dropped, k.duplicates⟩ } ∧
         t.block.pendingWith .enrolDone 0 [byte 0, byte k.found, byte k.dropped, byte k.duplicates]) ∧
       (∀ i : StationId, w.answer = stationFrame 255 .rollCall (encIdent i) →
         (kindOf i.kind = none → k.stack ≠ [] → k.dropped < 255 →
           j = { k with dropped := k.dropped + 1, step := .rollCall, candidate := none }) ∧
         (kindOf i.kind ≠ none → s.block.bus.entriesOk = true → ∀ e ∈ held, e.ident = i →
           j = { k with candidate := some ⟨i, e.number, true, 0, w.bits⟩, step := .assign }) ∧
         (kindOf i.kind ≠ none → (∀ e ∈ held, e.ident ≠ i) →
           (∀ n, 1 ≤ n → n ≤ 24 → (∀ e ∈ held, e.number ≠ n) →
             (∀ m, 1 ≤ m → m < n → ∃ e ∈ held, e.number = m) →
             j = { k with candidate := some ⟨i, n, false, 0, w.bits⟩, step := .assign }) ∧
           ((∀ m, 1 ≤ m → m ≤ 24 → ∃ e ∈ held, e.number = m) →
             j.active = false ∧ j.last = some ⟨.full, k.found, k.dropped, k.duplicates⟩ ∧
             t.block.pendingWith .enrolDone 0 [byte 1, byte k.found, byte k.dropped, byte k.duplicates]))) ∧
       (w.answer ≠ [] → (∀ i, w.answer ≠ stationFrame 255 .rollCall (encIdent i)) →
         (w.bits.length < 48 → s.block.reportsKept t.block ∧
           j = { k with step := .rollCall, candidate := none
                        stack := (w.bits ++ [false]) :: (w.bits ++ [true]) :: k.stack }) ∧
         (48 ≤ w.bits.length → k.stack ≠ [] → k.duplicates < 255 →
           j = { k with duplicates := k.duplicates + 1, step := .rollCall, candidate := none } ∧
           t.block.pendingWith .duplicateId 0 (prefixBytes w.bits)))) ∧
  (∀ (s : State) (w : Transaction) (c : Candidate), s.block.bus.state = .waiting →
     s.block.bus.txn = some w → w.command = .assign → s.block.bus.walk.candidate = some c →
     s.block.bus.walk.stack ≠ [] → s.block.bus.walk.dropped < 255 →
     let k := s.block.bus.walk
     let q := s.block.bus.queue
     let next : Walk := { k with dropped := k.dropped + 1, step := .rollCall, candidate := none }
     ∃ t, exec .responseTimeout s = .next t ∧ t.block.bus.state = .free ∧
       t.block.bus.stations = s.block.bus.stations ∧
       (c.attempts < 2 → t.block.bus.walk = { k with step := .assign } ∧ t.block.bus.queue = q) ∧
       (2 ≤ c.attempts → c.rejoin = true → t.block.bus.walk = next ∧ t.block.bus.queue = q) ∧
       (2 ≤ c.attempts → c.rejoin = false → q.length < 8 →
         t.block.bus.walk = next ∧ t.block.bus.queue = q ++ [⟨true, c.number⟩]) ∧
       (2 ≤ c.attempts → c.rejoin = false → 8 ≤ q.length →
         t.block.bus.walk = { k with dropped := k.dropped + 1, step := .waitRoom } ∧ t.block.bus.queue = q)) ∧
  (∀ (b : Block) (w : Transaction) (c : Candidate), b.bus.tablesOk = true → b.bus.state = .waiting →
     b.bus.driver = false → b.bus.txn = some w → w.command = .assign → w.answer = [] → w.expected ≤ 24 →
     b.bus.walk.candidate = some c → b.bus.walk.found < 24 →
     let k := b.bus.walk
     let t := (stationFrame (0x80 + w.expected) .assign []).foldl Block.busChar b
     let e : Station := ⟨c.number, c.ident, false, false, none, 0, 0, 0, 0, 0, b.now, b.clock.uptime⟩
     let named (r : Role) : Prop := b.cmc.stored[r.index - 1]? = some (some c.ident)
     let fits (r : Role) : Prop :=
       b.bound r = false ∧ kindOf c.ident.kind = some r.kind ∧ b.stateRule r = true
     t.bus.state = .free ∧
     ((c.rejoin = false ∨ ∃ f ∈ b.bus.stations, f.ident = c.ident) → t.bus.walk =
       { k with found := k.found + 1, candidate := none, stack := c.bits :: k.stack, step := .rollCall }) ∧
     (c.rejoin = true → t.bus.stations = b.bus.stations) ∧
     (c.rejoin = false → (∀ m, m ≠ c.number → t.station m = b.station m) ∧
       (∀ r, named r → (∀ q, q.index < r.index → ¬named q) →
         (fits r → t.station c.number = some { e with role := some r }) ∧
         (¬fits r → t.station c.number = some e ∧ t.lines = b.lines ∧ t.tdu = b.tdu)) ∧
       ((∀ q, ¬named q) → t.station c.number = some e ∧ t.lines = b.lines ∧ t.tdu = b.tdu)))

/-- R175, R176, R179, R182, R185 to R187: every step keeps the station table: numbers 1 to 24 distinct,
identifiers distinct, at most one entry for each role, kinds that match, and for the candidate a free number and
an identifier no entry holds. -/
def Obligations.StationTableStaysConsistent : Prop :=
  ∀ s t : State, s.block.bus.tablesOk = true → step s = .next t → t.block.bus.tablesOk = true

/-! ## Enrolment and binding requests -/

/-- R184: STATION ENROL begins a walk with origin HOST, the empty prefix alone on the stack and the counts 0;
while a walk is active it is refused BUSY. -/
def Obligations.StationEnrolBeginsAWalk : Prop :=
  ∀ (s : State) (tag : Byte), s.block.linkIdle = true →
    (s.block.bus.walk.active = true → exec (.stationEnrol tag) s =
      .next (s.withBlock (s.block.repliedRefused .stationEnrol tag .busy 0))) ∧
    (s.block.bus.walk.active = false → exec (.stationEnrol tag) s =
      .next (s.withBlock ((s.block.modWalk fun k =>
        ⟨true, some .host, [[]], .rollCall, none, 0, 0, 0, k.last⟩).repliedDone .stationEnrol tag [])))

/-- R185, R176: STATION BIND of a free role to an unbound entry of matching kind whose state rule is met makes the
role name the entry, of a LOST one makes the return state BOUND, and reaches the role's owners: R56, R60 the analyzer
selection, R90 the DOSING cause, R145 the turbine's copy. Of the role already held it is DONE with no change (the
fields of its reply are the model's reading, notes/assumptions/54.md). Its refusals come in the order NO_SUCH,
KIND_MISMATCH, WRONG_STATE, ROLE_TAKEN. R186: STATION UNBIND of a role already unbound is DONE with no change (the
number 0 in its reply is the model's choice, notes/assumptions/27.md); with the state rule not met it is refused
WRONG_STATE, and without room BUSY; else an addressed CLEAR is placed, the entry is unbound, and the owners take it:
R4, R117 FURNACE, R56, R58 to R61 the analyzers, R90 DOSING, R118 HEADER and BYPASS, R145 TURBINE (that an unbound
FURNACE's stale mark is 0, and that binding and unbinding leave the status of a turbine's copy, is the model's choice,
notes/assumptions/22.md). R187: STATION FORGET of an unbound entry places an addressed FORGET; of a bound one, a CLEAR
and then a FORGET, and unbinds it; either removes the entry, discards the outcome of a transaction in flight to it,
and replies with the number and identifier. Its refusals come in the order NO_SUCH, WRONG_STATE, BUSY: one free place
is needed for an unbound entry, two for a bound one. That a reply stands after the NOTICE messages its own request has
placed is the model's choice (notes/assumptions/46.md). -/
def Obligations.StationsAreBoundUnboundForgotten : Prop :=
  (∀ (s : State) (tag : Byte) (n : Nat) (r : Role), s.block.linkIdle = true → 1 ≤ n → n ≤ 24 →
     let b := s.block
     let i := Instr.stationBind tag (byte n) (byte r.index)
     let answers (c : RefusalCode) : Prop := exec i s = .next (s.withBlock (b.repliedRefused .stationBind tag c 0))
     (b.station n = none → answers .noSuch) ∧
     (∀ e, b.station n = some e → kindOf e.ident.kind ≠ some r.kind → answers .kindMismatch) ∧
     (∀ e, b.station n = some e → kindOf e.ident.kind = some r.kind → b.stateRule r = false →
       answers .wrongState) ∧
     (∀ e, b.station n = some e → kindOf e.ident.kind = some r.kind → b.stateRule r = true →
       let state := byte (if e.lost then 2 else 1)
       (e.role ≠ some r → (b.bound r = true ∨ e.role ≠ none) → answers .roleTaken) ∧
       (e.role = some r →
         exec i s = .next (s.withBlock (b.repliedDone .stationBind tag [byte n, byte r.index, state]))) ∧
       (e.role = none → b.bound r = false → b.bus.entriesOk = true →
         let f : Station := { e with role := some r, returnBound := e.lost || e.returnBound }
         ∃ t, exec i s = .next t ∧ t.block.station n = some f ∧ t.block.holder r = some f ∧
           (∀ m, m ≠ n → t.block.station m = b.station m) ∧ t.block.bus.queue = b.bus.queue ∧
           t.block.cmc = b.cmc ∧ t.block.clock = b.clock ∧ b.tookBinding t.block e.lost r ∧
           t.block.lastReply .stationBind tag (.done [byte n, byte r.index, state])))) ∧
  (∀ (s : State) (tag : Byte) (r : Role), s.block.linkIdle = true →
     let b := s.block
     let i := Instr.stationUnbind tag (byte r.index)
     let answers (c : RefusalCode) : Prop := exec i s = .next (s.withBlock (b.repliedRefused .stationUnbind tag c 0))
     (b.bound r = false → exec i s = .next (s.withBlock (b.repliedDone .stationUnbind tag [byte 0]))) ∧
     (b.bound r = true → b.stateRule r = false → answers .wrongState) ∧
     (b.bound r = true → b.stateRule r = true → 8 ≤ b.bus.queue.length → answers .busy) ∧
     (∀ n e, b.bus.entriesOk = true → b.station n = some e → e.role = some r → b.stateRule r = true →
       b.bus.queue.length < 8 →
       ∃ t, exec i s = .next t ∧
         t.block.station n = some { e with role := none, returnBound := !e.lost && e.returnBound } ∧
         t.block.bound r = false ∧ (∀ m, m ≠ n → t.block.station m = b.station m) ∧
         t.block.bus.queue = b.bus.queue ++ [⟨false, n⟩] ∧ t.block.cmc = b.cmc ∧ t.block.clock = b.clock ∧
         b.tookUnbinding t.block r ∧ t.block.lastReply .stationUnbind tag (.done [byte n]))) ∧
  (∀ (s : State) (tag : Byte) (n : Nat), s.block.linkIdle = true → 1 ≤ n → n ≤ 24 →
     let b := s.block
     let i := Instr.stationForget tag (byte n)
     let answers (c : RefusalCode) : Prop := exec i s = .next (s.withBlock (b.repliedRefused .stationForget tag c 0))
     (b.station n = none → answers .noSuch) ∧
     ∀ e, b.station n = some e →
       (∀ r, e.role = some r → b.stateRule r = false → answers .wrongState) ∧
       (e.role = none → 8 ≤ b.bus.queue.length → answers .busy) ∧
       (∀ r, e.role = some r → b.stateRule r = true → 7 ≤ b.bus.queue.length → answers .busy) ∧
       let removed (t : State) : Prop :=
         exec i s = .next t ∧ t.block.station n = none ∧ (∀ m, m ≠ n → t.block.station m = b.station m) ∧
         (∀ w, t.block.bus.txn = some w → w.expected = n → w.entryHeld = false) ∧
         t.block.lastReply .stationForget tag (.done (byte n :: encIdent e.ident))
       (e.role = none → b.bus.queue.length < 8 → ∃ t, removed t ∧
         t.block.bus.queue = b.bus.queue ++ [⟨true, n⟩] ∧ t.block.lines = b.lines ∧ t.block.blu = b.blu ∧
         t.block.tdu = b.tdu ∧ t.block.notices = b.notices ∧ t.block.rcs = b.rcs) ∧
       (∀ r, e.role = some r → b.stateRule r = true → b.bus.queue.length < 7 → ∃ t, removed t ∧
         t.block.bus.queue = b.bus.queue ++ [⟨false, n⟩, ⟨true, n⟩] ∧ b.tookUnbinding t.block r))

/-! ## The host link -/

/-- R191, R192, R194: the bytes of a request frame, taken one by one on an idle link, execute the request as
the whole request does: the assembler finds its length, its body and its CRC, and the reply is the same. -/
def Obligations.FrameBytesAreTheRequest : Prop :=
  ∀ (b : Block) (r : Request), b.linkIdle = true → r.payload.length ≤ 248 →
    b.hostBytes (frameBytes r.kind r.tag r.payload) = b.submit r

/-- R192: a byte other than 0xC3 in HUNT is stray; a length outside 2 to 250 gives the frame up and counts two stray
bytes; a last CRC byte that does not match the frame gives it up and counts a CRC mismatch; a gap discards the frame
in assembly; a byte that finds the inbound buffer full discards the frame in assembly, or gives up the 0xC3 itself,
and counts an OVERRUN, and one that is no 0xC3 in HUNT is stray (the model's choice, notes/assumptions/36.md); each
raises LINK_ERROR with its cause, also where the counter stands at 65535 (the model's choice,
notes/assumptions/45.md). R193: RDYO is deasserted where 768 or more bytes are held, asserted where 256 or fewer are,
and keeps its level between; it is evaluated as a byte is stored in the frame in assembly and as the frame is
discarded, and while the full reset of a RESTART is due it stays deasserted (notes/assumptions/11.md). R190, R200:
before the ready point, and while the line is low after a link reset, a byte changes nothing. -/
def Obligations.InboundErrorsAreCounted : Prop :=
  (∀ k : Link,
     let held := (k.requests.map fun r => r.payload.length + 6).sum + k.assembly.length
     (k.restartDue = true → k.evalRdyo = { k with rdyo := false }) ∧
     (k.restartDue = false → (768 ≤ held → k.evalRdyo = { k with rdyo := false }) ∧
       (held ≤ 256 → k.evalRdyo = { k with rdyo := true }) ∧
       (257 ≤ held → held ≤ 767 → k.evalRdyo = k))) ∧
  (∀ (s : State) (v : Byte),
     let k := s.block.link
     k.takes = true → k.assembler = .body → k.held < 1024 →
     exec (.hostByteReceived v) s = .next (s.withBlock (s.block.modLink fun k => { k with
       assembly := k.assembly ++ [v]
       assembler := if k.assembly.length + 1 = (byteAt k.assembly 1).toNat + 2 then .crc else .body }.evalRdyo))) ∧
  (∀ s : State, s.block.link.assembler ≠ .hunt → ∃ t, exec .hostGapTimeout s = .next t ∧
     t.block.link.rdyo = { s.block.link with assembly := [], assembler := .hunt }.evalRdyo.rdyo) ∧
  (∀ (s : State) (v : Byte), s.block.link.requests = [] →
     let k := s.block.link
     (k.takes = false → exec (.hostByteReceived v) s = .next s) ∧
     (k.takes = true → k.assembler = .hunt → v ≠ 0xC3 → ∃ t, exec (.hostByteReceived v) s = .next t ∧
       t.block.link.stray = min 65535 (k.stray + 1) ∧ t.block.link.assembler = .hunt ∧
       t.block.link.assembly = k.assembly ∧ t.block.pendingWith .linkError 0 [byte 0] ∧
       t.block.lines = s.block.lines ∧ t.block.bus = s.block.bus ∧ t.block.rcs = s.block.rcs) ∧
     (k.takes = true → k.assembler = .hunt → k.assembly = [] → v = 0xC3 →
       ∃ t, exec (.hostByteReceived v) s = .next t ∧ t.block.link.assembler = .length ∧
         t.block.link.assembly = [0xC3] ∧ t.block.notices = s.block.notices) ∧
     (k.takes = true → k.assembler = .length → k.assembly = [0xC3] → v.toNat < 2 ∨ 250 < v.toNat →
       ∃ t, exec (.hostByteReceived v) s = .next t ∧ t.block.link.stray = min 65535 (k.stray + 2) ∧
         t.block.link.assembler = .hunt ∧ t.block.link.assembly = [] ∧
         t.block.pendingWith .linkError 0 [byte 0]) ∧
     (let frame := k.assembly ++ [v]
      let n := (byteAt frame 1).toNat
      k.takes = true → k.assembler = .crc → k.held < 1024 → frame.length = n + 4 →
      frame.drop (n + 2) ≠ crcBytes ((frame.drop 1).take (n + 1)) →
      ∃ t, exec (.hostByteReceived v) s = .next t ∧ t.block.link.crc = min 65535 (k.crc + 1) ∧
        t.block.link.assembler = .hunt ∧ t.block.link.assembly = [] ∧ t.block.link.requests = [] ∧
        t.block.pendingWith .linkError 0 [byte 2] ∧ t.block.lines = s.block.lines) ∧
     (k.assembler = .hunt → exec .hostGapTimeout s = .next s) ∧
     (k.assembler ≠ .hunt → ∃ t, exec .hostGapTimeout s = .next t ∧
       t.block.link.gap = min 65535 (k.gap + 1) ∧ t.block.link.assembler = .hunt ∧
       t.block.link.assembly = [] ∧ t.block.pendingWith .linkError 0 [byte 1] ∧
       t.block.lines = s.block.lines ∧ t.block.bus = s.block.bus ∧ t.block.rcs = s.block.rcs)) ∧
  (∀ (s : State) (v : Byte), s.block.link.requests ≠ [] → s.block.link.takes = true →
     1024 ≤ s.block.link.held →
     let k := s.block.link
     ∃ t, exec (.hostByteReceived v) s = .next t ∧ t.block.link.requests = k.requests ∧
       t.block.link.assembler = .hunt ∧ t.block.lines = s.block.lines ∧ t.block.rcs = s.block.rcs ∧
       (k.assembler = .hunt → v ≠ 0xC3 → t.block.link.stray = min 65535 (k.stray + 1) ∧
         t.block.link.overrun = k.overrun ∧ t.block.pendingWith .linkError 0 [byte 0]) ∧
       (k.assembler ≠ .hunt ∨ v = 0xC3 → t.block.link.overrun = min 65535 (k.overrun + 1) ∧
         t.block.link.stray = k.stray ∧ t.block.link.assembly = [] ∧
         t.block.pendingWith .linkError 0 [byte 3]))

/-- R200, R206: a link reset after the ready point empties both buffers, clears the error counters, returns the
assembler to HUNT and, with no restart pending, asserts RDYO; bytes are ignored until HRXD has returned high; plant
state, notices' counts and the Record Store are kept, and each pending entry above the floor has its message placed
again, in table order, as far as there is room; the others are owed; of what the buffer held before nothing is left.
R190, R199: with a restart pending the link reset takes it off, RDYO stays deasserted, and the full reset stands due
until RESTART_RESET (the model's choices, notes/assumptions/37.md and notes/assumptions/11.md); that RDYO is asserted
is claimed with no reset due. R200: before the ready point no link reset is taken. -/
def Obligations.LinkResetEmptiesTheLink : Prop :=
  ∀ s : State,
    (s.block.ready = false → exec .linkReset s = .next s) ∧
    (s.block.ready = true →
      ∃ t u, exec .linkReset s = .next t ∧ t.block.link.assembler = .hunt ∧ t.block.link.assembly = [] ∧
        t.block.link.requests = [] ∧ t.block.link.stray = 0 ∧ t.block.link.gap = 0 ∧
        t.block.link.crc = 0 ∧ t.block.link.overrun = 0 ∧ t.block.link.sending = false ∧
        t.block.link.restartPending = false ∧ t.block.link.takes = false ∧
        t.block.link.baud = s.block.link.baud ∧
        t.block.lines = s.block.lines ∧ t.block.blu = s.block.blu ∧ t.block.tdu = s.block.tdu ∧
        t.block.bus = s.block.bus ∧ t.block.rcs = s.block.rcs ∧ t.block.cmc = s.block.cmc ∧
        t.block.notices.floor = s.block.notices.floor ∧
        t.block.notices.entries.map (fun e => (e.kind, e.subject, e.count, e.detail)) =
          s.block.notices.entries.map (fun e => (e.kind, e.subject, e.count, e.detail)) ∧
        (s.block.notices.entries = [] → t.block.link.outbound = [] ∧ t.block.outboundHeld = 0) ∧
        (s.block.link.restartPending = false → s.block.link.restartDue = false →
          t.block.link.rdyo = true ∧ t.block.link.restartDue = false) ∧
        (s.block.link.restartPending = true → t.block.link.rdyo = false ∧ t.block.link.restartDue = true ∧
          t.block.link.outbound = []) ∧
        (let above := s.block.notices.entries.filter fun e => s.block.aboveFloor e.kind
         let room := if s.block.link.restarting then 0 else
           (2048 - if s.block.link.awaiting then 282 else 32) / 26 + 1
         let placed := above.take room
         t.block.link.outbound = placed.map s.block.noticeFrame ∧ (∀ e, (s.block.noticeFrame e).length = 26) ∧
         t.block.notices.entries = s.block.notices.entries.map fun e =>
           if s.block.aboveFloor e.kind then { e with owed := !placed.any fun f => f.is e.kind e.subject } else e) ∧
        (∀ e, s.block.notices.entries = [e] → s.block.aboveFloor e.kind = true →
          s.block.link.restarting = false →
          t.block.link.outbound = [s.block.noticeFrame e] ∧ ∀ f ∈ t.block.notices.entries, f.owed = false) ∧
        (∀ v, exec (.hostByteReceived v) t = .next t) ∧
        exec .hrxdReturnedHigh t = .next u ∧ u.block.link = { t.block.link with lineLow := false })

/-- R193, R194: HRDY asserted starts the oldest message, and MESSAGE_SENT takes it out of the buffer; with no entry
owed and no request waiting nothing else changes. With nothing to send HRDY changes nothing. That HRDY is looked at
only at HRDY_ASSERTED, and that the last byte of a message leaves at MESSAGE_SENT, is the model's reading
(notes/assumptions/9.md). R204: when a message leaves and 32 bytes are free, the first owed entry above the floor in
table order has its message placed and is no longer owed; the others follow while 32 bytes are free, and stay owed
where they are not. R194: a request that arrives whole with fewer than 256 bytes free outbound waits behind those that
wait. When a message leaves and 256 bytes are then free, the oldest waiting request leaves the inbound buffer, RDYO is
evaluated, and it is executed and answered as one that meets an idle link is; the next follows while 256 bytes are
free. It takes the room before the owed notices or after them, as the operand of MESSAGE_SENT says (the model's
choice, notes/assumptions/10.md); with fewer than 256 bytes free it waits on. -/
def Obligations.MessagesLeaveAndOwedNoticesFollow : Prop :=
  (∀ (s : State) (first : Bool), s.block.link.restartPending = false →
     (s.block.link.outbound = [] → exec .hrdyAsserted s = .next s) ∧
     (∀ m ms, s.block.link.outbound = m :: ms → s.block.link.requests = [] →
       (∀ e ∈ s.block.notices.entries, e.owed = false) →
       ∃ t, exec .hrdyAsserted s = .next t ∧
         t.block.link = { s.block.link with sending := true } ∧
         exec (.messageSent first) t = .next (s.withBlock (s.block.modLink fun k =>
           { k with outbound := ms, sending := false, sent := 0 })))) ∧
  (∀ (s : State) (first : Bool) (es fs : List NoticeEntry) (e : NoticeEntry),
     s.block.link.restarting = false → s.block.link.sending = true → s.block.link.awaiting = false →
     s.block.link.requests = [] → s.block.notices.entries = es ++ e :: fs →
     (∀ f ∈ es, f.owed = false ∨ s.block.aboveFloor f.kind = false) →
     e.owed = true → s.block.aboveFloor e.kind = true → (∀ f ∈ es ++ fs, f.is e.kind e.subject = false) →
     ∀ m ms, s.block.link.outbound = m :: ms → let held := (ms.map List.length).sum
       held + 32 ≤ 2048 →
       (∀ f ∈ fs, f.owed = false ∨ s.block.aboveFloor f.kind = false) ∨ 2048 < held + 26 + 32 →
       ∃ t, exec (.messageSent first) s = .next t ∧
         t.block.link.outbound = ms ++ [s.block.noticeFrame e] ∧
         t.block.notices.entries = es ++ { e with owed := false } :: fs ∧ t.block.lines = s.block.lines) ∧
  (∀ (s : State) (first : Bool) (m : List Byte) (ms : List (List Byte)),
     s.block.link.restarting = false → s.block.link.sending = true → s.block.link.awaiting = false →
     s.block.link.requests = [] → s.block.link.outbound = m :: ms →
     ∃ t, exec (.messageSent first) s = .next t ∧
       let held := (ms.map List.length).sum
       let owed := s.block.notices.entries.filter fun e => e.owed && s.block.aboveFloor e.kind
       let placed := owed.take (if held + 32 ≤ 2048 then (2048 - held - 32) / 26 + 1 else 0)
       t.block.link = { s.block.link with
         outbound := ms ++ placed.map s.block.noticeFrame, sending := false, sent := 0 } ∧
       (∀ e, (s.block.noticeFrame e).length = 26) ∧
       t.block.notices.entries = s.block.notices.entries.map fun e =>
         if placed.any fun f => e.is f.kind f.subject then { e with owed := false } else e) ∧
  (∀ (b : Block) (r : Request), r.payload.length ≤ 248 →
     (b.linkIdle = true → b.submit r = b.answer r) ∧
     (b.link.takes = true → b.link.assembler = .hunt → b.link.assembly = [] →
       b.link.held + r.payload.length + 6 ≤ 1024 → b.outboundFree < 256 →
       b.submit r = b.modLink fun k => { k with requests := k.requests ++ [r] }.evalRdyo)) ∧
  (∀ b : Block,
     (b.link.requests = [] ∨ b.outboundFree < 256 → b.takeWaiting = b) ∧
     ∀ (r : Request) (rs : List Request), b.link.restarting = false → b.link.requests = r :: rs →
       256 ≤ b.outboundFree →
       b.takeWaiting = ((b.modLink fun k => { k with requests := rs }.evalRdyo).answer r).takeWaiting) ∧
  (∀ (s : State) (m : List Byte) (ms : List (List Byte)), s.block.link.restartPending = false →
     s.block.link.sending = true → s.block.link.outbound = m :: ms →
     let left := s.block.modLink fun k => { k with outbound := ms, sending := false, sent := 0 }
     exec (.messageSent true) s = .next (s.withBlock left.takeWaiting.sendOwed) ∧
     exec (.messageSent false) s = .next (s.withBlock left.sendOwed.takeWaiting) ∧
     (left.outboundFree < 256 →
       left.sendOwed.takeWaiting = left.sendOwed ∧ left.takeWaiting.sendOwed = left.sendOwed))

/-- R194, R195: a frame whose kind is none of the kind table is refused UNKNOWN_KIND, and one whose payload
length is not its kind's is refused BAD_LENGTH; nothing else changes. R194: a line, turbine, station number,
role index, declare action or first kind outside its range is refused RANGE before the owner's own tests;
nothing else changes. -/
def Obligations.GeneralTestsRefuse : Prop :=
  (∀ (s : State) (tag kind : Byte) (p : List Byte), s.block.linkIdle = true → p.length ≤ 248 →
     (reqKindOf kind = none → exec (.unknownKind tag kind p) s =
       .next (s.withBlock (s.block.place (frameBytes (byte 0x81) tag [kind, byte 1, byte 0])))) ∧
     (∀ k, reqKindOf kind = some k → p.length ≠ k.length → s.block.submit ⟨kind, tag, p⟩ =
       s.block.place (frameBytes (byte 0x81) tag [kind, byte 2, byte 0]))) ∧
  (∀ (s : State) (tag v r : Byte), s.block.linkIdle = true →
     let refused (k : ReqKind) (i : Instr) : Prop :=
       exec i s = .next (s.withBlock (s.block.repliedRefused k tag .range 0))
     (lineOf v.toNat = none → refused .lineStart (.lineStart tag v) ∧ refused .lineFeed (.lineFeed tag v) ∧
       refused .lineStop (.lineStop tag v) ∧ refused .statusLine (.statusLine tag v) ∧
       (∀ w, refused .lineCeiling (.lineCeiling tag v w)) ∧ refused .lineDeclare (.lineDeclare tag v r) ∧
       ∀ y u a b c d e, refused .allowanceRestore (.allowanceRestore tag v y u a b c d e)) ∧
     (1 < v.toNat → ∀ l, refused .lineDeclare (.lineDeclare tag (byte (lineNumber l)) v)) ∧
     (turbineOf v.toNat = none → refused .turbineStart (.turbineStart tag v) ∧
       refused .turbineStop (.turbineStop tag v) ∧ refused .tripReset (.tripReset tag v) ∧
       refused .statusTurbine (.statusTurbine tag v)) ∧
     (v.toNat = 0 ∨ 24 < v.toNat → refused .stationList (.stationList tag v) ∧
       refused .stationForget (.stationForget tag v) ∧ refused .stationBind (.stationBind tag v r)) ∧
     (roleOf v.toNat = none → refused .stationUnbind (.stationUnbind tag v) ∧
       ∀ n, 1 ≤ n → n ≤ 24 → refused .stationBind (.stationBind tag (byte n) v)) ∧
     (noticeKindOf v.toNat = none → refused .noticeList (.noticeList tag v)))

/-- R197: IDENT carries the part code 0x0310, revision 1, the reset cause, the configuration source and CRC, and the
link baud. R198: each report below is a DONE reply, fits one frame of at most 254 bytes, carries exactly the fields
spelled out, as they stand, and changes nothing else: STATUS LINE those of R22, R54, R81, R100 and R114, STATUS
TURBINE those of R158, STATUS PLANT those of R135 and R159 with the counters and buffers, STATION LIST (R188) up to 8
entries from its number upward, the next number, the role table and the walk, NOTICE LIST (R205) the floor, ATTN, the
next kind, and the entries of whole kinds, at most 24. The order within a line and of the turbine targets, and which
fields have a presence byte, are the model's reading where the rules leave them open (notes/assumptions/27.md), and so
are the codes of a level (0 asserted, 1 released), of the binding term (NONE 4) and of the last trip (NONE 0, INPUT 1,
OVERSPEED 2) (notes/assumptions/28.md), and that a last trip NONE sends one byte 0 for the state before, with no presence byte, and
an absent stamp (notes/assumptions/47.md). -/
def Obligations.IdentAndReportsFitOneFrame : Prop :=
  ∀ (s : State) (tag : Byte), s.block.linkIdle = true →
    let b := s.block
    let answers (i : Instr) (k : ReqKind) (fields : List Byte) : Prop :=
      exec i s = .next (s.withBlock (b.repliedDone k tag fields)) ∧
      (replyFrame (byte k.code) tag (.done fields)).length ≤ 254
    answers (.ident tag) .ident
      ([byte 0x10, byte 0x03, byte 1,
        byte (match b.cause with | .power => 0 | .pin => 1 | .restart => 2),
        byte (match b.cmc.source with | .image => 0 | .defaults => 1)] ++ u16 b.cmc.imageCrc ++
        u32 b.link.baud) ∧
    (∀ l : LineId,
      let x := (b.line l).lsc
      let g := (b.line l).gfu
      let e := (b.line l).eau
      let c := (b.line l).ccu
      let d := (b.line l).dau
      let role (r : AnalyzerRole) : List Byte := flag r.bound ++ flag r.healthy ++ flag r.o2Fault
      let last (z : Pollutant) : Option PolMinute := e.last.map fun m => m.pol.get z
      let sequence : List Byte :=
        u8 x.state.code ++ flag x.feedRequested ++ u8 x.cause.code ++ u16 (condBits x.pendingConds) ++
        optional 3 (fun f => u16 f.temp ++ u8 f.status.code) x.sample ++ flag x.hot ++ u16 x.confirm ++
        u16 x.hold ++ u16 x.burnout ++ u8 (if b.feedStop then 0 else 1)
      let feed : List Byte :=
        u16 g.load ++ u16 g.target ++ u16 g.lastFiring ++ u32 (if x.state = .firing then g.rate else 0) ++
        u32 g.acc ++ u8 g.phase.code ++ u16 g.age ++ flag g.owed ++ u8 g.command.code ++ u8 g.faults ++
        u16 g.completed ++ u16 g.dropped ++ u16 g.ramFaults ++ u32 g.fedMass ++ u16 g.lhv ++
        u8 g.estResult.code ++ u8 g.usable ++ optional 2 u16 g.lastRaw
      let emission : List Byte :=
        u8 e.active.code ++ role e.roleA ++ role e.roleB ++ u16 e.switches ++
        allPollutants.flatMap (fun z => u32 (e.samples.pol.get z).count) ++ u32 e.samples.o2.count ++
        u32 e.samples.h2o.count ++
        allPollutants.flatMap (fun z => optional 1 (fun m => u8 m.status.code) (last z) ++
          optional 2 u16 ((last z).bind PolMinute.cn) ++ flag ((last z).elim false PolMinute.overRange)) ++
        optional 2 u16 (e.last.bind LastMinute.o2) ++ optional 2 u16 (e.last.bind LastMinute.h2o) ++
        u8 (countedSlots e.table).length ++
        allPollutants.flatMap (fun z =>
          optional 2 u16 (meanOf (validCns e.table z)) ++ u8 (validCns e.table z).length) ++
        u8 e.day.complete ++ u8 e.day.partials ++
        allPollutants.flatMap (fun z => u8 (e.day.pol.get z).valid ++ u8 (e.day.pol.get z).invalid) ++
        allPollutants.flatMap fun z => u16 (e.tallies.get z)
      let cleaning : List Byte :=
        u16 c.demand ++ u16 c.trim ++ optional 2 u16 c.acidIndex ++ optional 2 u16 c.actualRate ++
        flag c.dosingLost ++ flag c.dosingFault ++ u8 c.atMax ++ u16 c.host ++ u16 c.guard ++
        u16 c.reagent ++ u16 c.deviation ++ u16 c.effective ++
        u8 (if c.effective = 1100 then 4 else if c.host = c.effective then 0 else if c.guard = c.effective then 1
          else if c.reagent = c.effective then 2 else if c.deviation = c.effective then 3 else 4) ++
        u16 c.lowerings ++ u16 c.releases
      let deviation : List Byte :=
        u8 (setBits [d.causes.analyzer, d.causes.dosing, d.causes.declared]) ++
        optional 8 (fun y => encStamp y.openStamp ++ u8 y.minutes ++
          u8 (setBits [y.causesSeen.analyzer, y.causesSeen.dosing, y.causesSeen.declared]) ++
          u8 y.limit.code) d.episode ++
        u8 (b.lineParams l).episodeLimit ++ u16 d.used ++ u16 (3600 - d.used) ++ flag d.restored ++
        optional 2 u16 d.restoredYear ++ u16 d.closed ++
        optional 7 (fun y => u8 y.reason.code ++ u8 y.minutes ++ encStamp y.stamp) d.last
      answers (.statusLine tag (byte (lineNumber l))) .statusLine
        (sequence ++ feed ++ emission ++ cleaning ++ deviation)) ∧
    (∀ u : TurbineId,
      let x := b.turbine u
      answers (.statusTurbine tag (byte (turbineNumber u))) .statusTurbine
        (u8 x.state.code ++ u8 x.mark.code ++ u16 x.targetBefore ++ u16 x.targetAfter ++ u16 x.setpoint ++
          flag x.frozen ++ u16 x.runup ++ u8 x.qual ++ u8 (if x.tripInput then 0 else 1) ++
          (match x.lastTrip with
            | none => List.replicate 7 (byte 0)
            | some y => u8 (y.cause.code + 1) ++ u8 y.before.code ++ encStamp y.stamp) ++
          u16 x.trips ++ flag x.station.bound ++ flag x.station.healthy ++ optional 2 u16 x.station.valve ++
          u8 x.station.breaker.code ++ optional 1 (fun y => u8 (OkFault.code y)) x.station.status ++
          u8 x.speed.status.code ++ u16 x.speed.rpm ++ u8 x.speed.range.code ++ u8 x.speed.overCount)) ∧
    (let x := b.blu
     let q := b.tdu
     let k := b.link
     let t1 := b.turbine .t1
     let t2 := b.turbine .t2
     answers (.statusPlant tag) .statusPlant
      (encStamp? x.stamp ++ optional 2 u16 x.pressure ++ i32 x.trim ++ u32 x.uncontrolled ++ i32 x.demand ++
        i32 x.demandCut ++ u16 t1.targetBefore ++ u16 t1.targetAfter ++ u16 t2.targetBefore ++
        u16 t2.targetAfter ++ u32 x.cut1 ++ u32 x.cut2 ++ u32 x.residual ++ u32 x.elShort ++ u32 x.heatShort ++
        allLines.flatMap (fun l => let c := x.copies.get l; let f := x.figures.get l
          u8 c.state.code ++ u16 c.ceiling ++ optional 2 u16 c.steam ++ flag c.stale ++
          optional 4 u32 (f.map LineFigures.lo) ++ optional 4 u32 (f.map LineFigures.hi) ++
          optional 4 u32 (f.map LineFigures.alloc) ++ optional 2 u16 (f.map LineFigures.target)) ++
        u32 x.surplus ++ u16 x.target ++ u32 x.unabsorbed ++ u16 x.setpoint ++ optional 2 u16 x.flow ++
        flag x.short ++ flag x.saturated ++
        u16 q.commitment.p ++ u16 q.commitment.h ++ optional 6 encEffTime q.commitment.time ++
        encStamp? q.commitment.applied ++ u8 q.queue.length ++
        optional 6 encEffTime (q.queue.head?.map SchedEntry.time) ++ u16 q.commitment.superseded ++
        u32 q.elConv ++ u32 q.heatConv ++ u8 t1.state.code ++ u16 t1.setpoint ++ u8 t2.state.code ++
        u16 t2.setpoint ++ u16 b.bus.stray ++ u16 k.stray ++ u16 k.gap ++ u16 k.crc ++ u16 k.overrun ++
        u16 ((k.requests.map Request.size).sum + k.assembly.length) ++
        u16 ((k.outbound.map List.length).sum - k.sent))) ∧
    (∀ n, 1 ≤ n → n ≤ 24 →
      let es := b.bus.stations.filter fun e => n ≤ e.number
      let w := b.bus.walk
      answers (.stationList tag (byte n)) .stationList
        ((es.take 8).flatMap (fun e => u8 e.number ++ encIdent e.ident ++
            u8 (if e.lost then 2 else if e.role = none then 0 else 1) ++ u8 (if e.returnBound then 1 else 0) ++
            optional 1 (fun r => u8 (Role.index r)) e.role ++ u8 e.misses ++ u16 e.good ++ u16 e.miss ++
            u16 e.crossed ++ u16 e.bad ++ encStamp e.lastGood) ++
          optional 1 (fun e => u8 (Station.number e)) (es.drop 8).head? ++
          allRoles.flatMap (fun r => u8 (((b.holder r).map Station.number).getD 0)) ++
          flag w.active ++ optional 1 (fun o => u8 (WalkOrigin.code o)) w.origin ++ u8 w.stack.length ++
          u8 w.found ++ u8 w.dropped ++ u8 w.duplicates ++
          optional 4 (fun z => u8 (LastWalk.reason z).code ++ u8 z.found ++ u8 z.dropped ++ u8 z.duplicates)
            w.last)) ∧
    (∀ k : NoticeKind, ∃ n,
      let kinds := allNoticeKinds.drop (k.code - 1)
      let of (j : NoticeKind) : List NoticeEntry := b.notices.entries.filter fun e => e.kind == j
      let listed := (kinds.take n).flatMap of
      listed.length ≤ 24 ∧ (∀ j, kinds[n]? = some j → 24 < listed.length + (of j).length) ∧
      answers (.noticeList tag (byte k.code)) .noticeList
        (u8 b.notices.floor ++ u8 (if b.attn then 0 else 1) ++
          optional 1 (fun j => u8 (NoticeKind.code j)) kinds[n]? ++
          listed.flatMap fun e => u8 e.kind.code ++ u8 e.subject ++
            u8 (setBits [b.aboveFloor e.kind, e.owed]) ++ u8 e.count ++ padDetail e.detail))

/-- R199: RESTART is answered DONE and no request is taken after it; messages ahead of its DONE are sent first.
Once the DONE has been sent RDYO is deasserted, whatever bytes arrive, and the full reset follows, with cause
RESTART. That the DONE leaves by HRDY_ASSERTED and MESSAGE_SENT is the model's reading (notes/assumptions/9.md),
and so is the reset standing due until RESTART_RESET (notes/assumptions/11.md). -/
def Obligations.RestartFollowsItsReply : Prop :=
  (∀ (s : State) (tag : Byte) (hi lo : Bool), s.block.linkIdle = true → s.block.link.outbound = [] →
     s.block.cmc.save ≠ .writing →
     ∃ t u v w, exec (.restart tag) s = .next t ∧
       t.block = (s.block.modLink fun k => { k with restartPending := true }).repliedDone .restart tag [] ∧
       (∀ r, t.block.mayTake = false ∧ (t.block.submit r).lines = t.block.lines) ∧
       exec .hrdyAsserted t = .next u ∧ exec (.messageSent false) u = .next v ∧
       v.block.link.rdyo = false ∧ v.block.link.restartDue = true ∧ v.block.link.restartPending = false ∧
       (∀ x, ∃ z, exec (.hostByteReceived x) v = .next z ∧ z.block.link.rdyo = false) ∧
       exec (.restartReset hi lo 0) v = .next w ∧ w.block.cause = .restart ∧ w.block.ready = false ∧
       w.block.cmc.memory = s.block.cmc.memory) ∧
  (∀ (s : State) (first : Bool) (m n : List Byte) (ms : List (List Byte)),
     s.block.link.restartPending = true → s.block.link.sending = true → s.block.link.outbound = m :: n :: ms →
     exec (.messageSent first) s = .next (s.withBlock (s.block.modLink fun k =>
       { k with outbound := n :: ms, sending := false, sent := 0 })))

/-! ## Notices -/

/-- R203: a raise of an entry not pending makes it pending with count 1 and both stamps now; one of a pending
entry adds 1, saturating, and renews the last stamp and the detail, with no message; other entries are left as
they were. R202, R203: a notice newly pending above the floor asserts ATTN, and its 26-byte message is placed
where 32 bytes are free and no request awaits its reply; one at or below the floor places none and is not owed. -/
def Obligations.RaisesAnnounceOrCoalesce : Prop :=
  (∀ (b : Block) (k : NoticeKind) (n : Nat) (d : List Byte),
     let t := b.raise k n d
     (b.notice k n = none → ∃ e, t.notice k n = some e ∧ e.count = 1 ∧ e.first = b.now ∧ e.last = b.now ∧
       e.detail = padDetail d) ∧
     (∀ e, b.notice k n = some e → t.notice k n =
       some { e with count := min 255 (e.count + 1), last := b.now, detail := padDetail d } ∧
       t.link = b.link) ∧
     (∀ j m, (j ≠ k ∨ m ≠ n) → t.notice j m = b.notice j m) ∧
     t.notices.floor = b.notices.floor) ∧
  (∀ (b : Block) (k : NoticeKind) (n : Nat) (d : List Byte), b.notice k n = none →
     let t := b.raise k n d
     (b.aboveFloor k = true → t.attn = true) ∧
     (b.aboveFloor k = true → b.link.awaiting = false → b.link.restarting = false → 32 ≤ b.outboundFree →
       ∃ e, t.notice k n = some e ∧ e.owed = false ∧
         t.link = { b.link with outbound := b.link.outbound ++ [t.noticeFrame e] } ∧
         (t.noticeFrame e).length = 26) ∧
     (b.aboveFloor k = true → b.outboundFree < 32 →
       ∃ e, t.notice k n = some e ∧ e.owed = true ∧ t.link = b.link) ∧
     (b.aboveFloor k = false → t.link = b.link ∧ ∃ e, t.notice k n = some e ∧ e.owed = false))

/-- R205: NOTICE CLEAR of one entry, of every subject of a kind or of every entry clears exactly the entries named and
replies with how many were pending; a kind outside 1 to 27 is refused RANGE, and so is a subject outside the range of
its kind. -/
def Obligations.NoticeClearClearsTheNamed : Prop :=
  ∀ (s : State) (tag sub : Byte), s.block.linkIdle = true →
    let es := s.block.notices.entries
    let cleared (i : Instr) (p : NoticeEntry → Bool) : Prop := exec i s = .next (s.withBlock
      ((s.block.modNotices fun es => es.filter fun e => !p e).repliedDone .noticeClear tag
        [byte (es.filter p).length]))
    cleared (.noticeClear tag 0xFF sub) (fun _ => true) ∧
    (∀ k : NoticeKind, cleared (.noticeClear tag (byte k.code) 0xFF) (fun e => e.kind == k)) ∧
    (∀ (k : NoticeKind) (n : Nat), n < 255 → k.subjectOk n = true →
      cleared (.noticeClear tag (byte k.code) (byte n)) (fun e => e.is k n)) ∧
    (∀ (k : NoticeKind) (n : Nat), n < 255 → k.subjectOk n = false →
      exec (.noticeClear tag (byte k.code) (byte n)) s =
        .next (s.withBlock (s.block.repliedRefused .noticeClear tag .range 0))) ∧
    (∀ k : Byte, k ≠ 0xFF → noticeKindOf k.toNat = none → exec (.noticeClear tag k sub) s =
      .next (s.withBlock (s.block.repliedRefused .noticeClear tag .range 0)))

/-- R205: NOTICE FLOOR stores the floor clamped to 3 and replies with it and the ATTN level (0 asserted, 1 released:
the model's reading, notes/assumptions/28.md); at floor 3 no entry is above the floor while every class is at most 3,
nothing is owed that was above it before, and ATTN is released. R204, R203: each pending entry that a lower floor lets
rise above it has its message placed, in table order, while 282 bytes are free, since the request awaits its reply,
and is owed where they are not; one that falls to the floor or below is no longer owed; every other entry is as
before. That the reply stands after the NOTICE messages its own request has placed is the model's choice
(notes/assumptions/46.md). -/
def Obligations.NoticeFloorIsStored : Prop :=
  ∀ (s : State) (tag v : Byte), s.block.linkIdle = true →
    ∃ t, exec (.noticeFloor tag v) s = .next t ∧ t.block.notices.floor = min v.toNat 3 ∧
      t.block.notices.entries.map (fun e => (e.kind, e.subject, e.count, e.first, e.last, e.detail)) =
        s.block.notices.entries.map (fun e => (e.kind, e.subject, e.count, e.first, e.last, e.detail)) ∧
      t.block.lastReply .noticeFloor tag
        (.done [byte (min v.toNat 3), byte (if t.block.attn then 0 else 1)]) ∧
      (3 ≤ v.toNat → (∀ k, s.block.classOf k ≤ 3) → t.block.attn = false ∧
        ∀ e ∈ t.block.notices.entries, s.block.aboveFloor e.kind = true → e.owed = false) ∧
      (let held := (s.block.link.outbound.map List.length).sum
       let above (e : NoticeEntry) : Prop := s.block.notices.floor < s.block.classOf e.kind
       let stays (e : NoticeEntry) : Prop := min v.toNat 3 < s.block.classOf e.kind
       let risen := s.block.notices.entries.filter fun e => decide (¬above e ∧ stays e)
       let gone := s.block.link.sent
       let room := if held + 282 ≤ 2048 + gone then (2048 + gone - held - 282) / 26 + 1 else 0
       let message (e : NoticeEntry) : List Byte :=
         s.block.noticeFrame ((s.block.notice e.kind e.subject).getD e)
       t.block.link = { s.block.link with outbound := s.block.link.outbound ++ (risen.take room).map message ++
         [replyFrame (byte ReqKind.noticeFloor.code) tag (.done [byte (min v.toNat 3), byte (if t.block.attn then 0 else 1)])] } ∧
       t.block.notices.entries = s.block.notices.entries.map fun e =>
         if above e ∧ ¬stays e then { e with owed := false }
         else if (risen.drop room).any (fun f => e.is f.kind f.subject) then { e with owed := true } else e) ∧
      t.block.lines = s.block.lines ∧ t.block.rcs = s.block.rcs ∧ t.block.cmc = s.block.cmc

/-! ## The Record Store -/

/-- R207: every step keeps at most 192 records, of consecutive serials with 1 after 4294967295. -/
def Obligations.RecordStoreStaysConsecutive : Prop :=
  ∀ s t : State, s.block.rcs.ok = true → step s = .next t → t.block.rcs.ok = true

/-- R207: a record handed over to a full store removes the oldest, adds 1 to the loss count, raises
RECORDS_LOST with the removed record's serial and kind, and takes the next serial. -/
def Obligations.FullStoreDropsTheOldest : Prop :=
  ∀ (b : Block) (l : LineId) (r : RecordBody) (old : StoredRecord) (rest : List StoredRecord),
    b.rcs.records = old :: rest → rest.length = 191 →
    let t := b.enterRecord l r
    t.rcs = ⟨rest ++ [⟨b.rcs.nextSerial, l, r⟩],
      if b.rcs.nextSerial = 4294967295 then 1 else b.rcs.nextSerial + 1,
      min 65535 (b.rcs.lossCount + 1)⟩ ∧
    t.pendingWith .recordsLost 0 (u32 old.serial ++ [byte old.body.kindCode]) ∧
    t.lines = b.lines ∧ t.bus = b.bus ∧ t.cmc = b.cmc

/-- R208: RECORDS FETCH with count 0 acknowledges: it removes from the front the records whose serial is below
s, and returns none; with a count and s the oldest serial it removes none and returns records from the oldest,
at most the count, within 238 bytes. No loss is counted. R208: with serials x and s of the sequence, x is below
s exactly when 1 to 2147483647 steps forward lead from x to s, and of two serials at most one is below the
other. -/
def Obligations.FetchAcknowledgesAndReturns : Prop :=
  (∀ (s : State) (tag : Byte) (v : Word32) (n : Byte), s.block.linkIdle = true →
     ∃ left sent, exec (.recordsFetch tag v n) s = .next (s.withBlock
         ({ s.block with rcs := { s.block.rcs with records := left } }.repliedDone .recordsFetch tag
           (optional 4 (fun r => u32 (StoredRecord.serial r)) left.head? ++ [byte left.length] ++
             u16 s.block.rcs.lossCount ++ [byte sent.length] ++ sent.flatMap StoredRecord.encode))) ∧
       (∃ gone, s.block.rcs.records = gone ++ left ∧ ∀ r ∈ gone, serialBelow r.serial v.toNat = true) ∧
       (∀ r, left.head? = some r → serialBelow r.serial v.toNat = false) ∧
       (∃ rest, left = sent ++ rest ∧ (sent.length = n.toNat ∨ ∀ r, rest.head? = some r →
         238 < (sent.flatMap StoredRecord.encode).length + r.encode.length)) ∧
       sent.length ≤ n.toNat ∧ (sent.flatMap StoredRecord.encode).length ≤ 238) ∧
  (∀ x s : Nat, 1 ≤ x → x ≤ 4294967295 → 1 ≤ s → s ≤ 4294967295 →
     (serialBelow x s = true ↔ ∃ n, 1 ≤ n ∧ n ≤ 2147483647 ∧ Block.serialAfter^[n] x = s) ∧
     (serialBelow x s = true → serialBelow s x = false))

/-! ## Parameters and the configuration memory -/

/-- R210: PARAM SET is refused RANGE for a group or instance that does not exist and for a basis other than 0 and
1, NO_SUCH for an item that is not in its group, and WRONG_STATE for an idle-only item whose owner fails its test,
and then nothing changes. An accepted one stores the value, clamped and rounded for its item
(StoredValuesAreRounded gives it), in the item's range; the reply carries it; every other item keeps its value,
but for the s0 a written smax bounds. R209, R211: it is the value in force from then on. The effects at the write:
R96 the deviation ceiling is taken by a line with causes, R131 the bypass setpoint falls to a lower maximum, R161
a baud is in force at once on a free bus, R204 a notice class below the floor ends what was owed, and one above it
announces its pending entry as newly raised. R209, 13.2: every step keeps every value in its range and rounding.
That the reply stands after the NOTICE messages its own request has placed is the model's choice
(notes/assumptions/46.md). -/
def Obligations.ParamSetStoresInRange : Prop :=
  (∀ (s : State) (tag g i k : Byte) (v : Word32), s.block.linkIdle = true →
     let b := s.block
     let refused (c : RefusalCode) : Prop :=
       exec (.paramSet tag g i k v) s = .next (s.withBlock (b.repliedRefused .paramSet tag c 0))
     (paramName g.toNat i.toNat k.toNat = none → refused .range) ∧
     ∀ n, paramName g.toNat i.toNat k.toNat = some n → (n.item = none → refused .noSuch) ∧
       ∀ x : Item Params, n.item = some x →
         (n.isBasis = true → 1 < v.toNat → refused .range) ∧
         ((n.isBasis = true → v.toNat ≤ 1) → x.idle = true → n.ownerIdle b = false → refused .wrongState) ∧
         ((n.isBasis = true → v.toNat ≤ 1) → (x.idle = false ∨ n.ownerIdle b = true) →
           let p := b.cmc.params
           let w := n.stored x p v.toNat
           ∃ t, exec (.paramSet tag g i k v) s = .next t ∧ x.lo ≤ w ∧ w ≤ x.hi ∧
             t.block.cmc = { b.cmc with params := n.write x p v.toNat } ∧
             (p.classes.length = 27 → x.get t.block.cmc.params = w) ∧
             (∀ m y, m.item = some y → m ≠ n → (∀ u, n = .turbine u 4 → m ≠ .turbine u 1) →
               y.get t.block.cmc.params = y.get p) ∧
             t.block.lastReply .paramSet tag (.done ([g, i, k] ++ u32 w)) ∧
             t.block.clock = b.clock ∧ t.block.rcs = b.rcs ∧ t.block.tdu = b.tdu ∧
             t.block.bus.stations = b.bus.stations ∧
             ((∀ l, n ≠ .line l 19) → t.block.lines = b.lines) ∧
             (∀ l, n = .line l 19 →
               ((b.line l).ccu.causes.isEmpty = true → t.block.lines = b.lines) ∧
               ((b.line l).ccu.causes.isEmpty = false → (t.block.line l).ccu.deviation = w ∧
                 (t.block.line l).ccu.effective = (t.block.line l).ccu.leastTerm ∧
                 (t.block.line l).lsc = (b.line l).lsc ∧ b.otherLinesKept t.block l)) ∧
             (n = .plant 7 → t.block.blu = { b.blu with setpoint := min b.blu.setpoint w }) ∧
             (n = .bus 1 → t.block.bus = if b.bus.state = .free then { b.bus with baud := w } else b.bus) ∧
             ((∀ l, n ≠ .line l 19) → n ≠ .plant 7 → t.block.blu = b.blu) ∧
             (n ≠ .bus 1 → t.block.bus = b.bus) ∧
             ((∀ c, n ≠ .noticeClass c 1) → t.block.notices = b.notices) ∧
             (∀ c, n = .noticeClass c 1 → p.classes.length = 27 → t.block.classOf c = w ∧
               (b.aboveFloor c = true → w ≤ b.notices.floor →
                 ∀ e ∈ t.block.notices.entries, e.kind = c → e.owed = false) ∧
               (b.aboveFloor c = false → b.notices.floor < w → 282 ≤ b.outboundFree →
                 ∀ e, b.notices.entries = [e] → e.kind = c → t.block.notices = b.notices ∧
                   t.block.link.outbound = b.link.outbound ++ [t.block.noticeFrame e,
                     replyFrame (byte 4) tag (.done ([g, i, k] ++ u32 w))])))) ∧
  (∀ s t : State, s.block.cmc.params.ok = true → step s = .next t → t.block.cmc.params.ok = true)

/-- R210: the value a write stores is clamped into the item's range, and then rounded by its owner. R38, R144: a
ramp falls to the multiple of 10 at or below it. R161: a baud becomes the highest listed rate not above it, or
38400 below all. R144: an s0 is stored as the lesser of its clamped value and smax, and a written smax lowers s0 to
it; nothing else of the turbine changes. Every other item stores the clamped value. -/
def Obligations.StoredValuesAreRounded : Prop :=
  ∀ (p : Params) (v : Nat) (l : LineId) (u : TurbineId),
    (∀ x, (ParamName.line l 10).item = some x →
      (ParamName.line l 10).stored x p v = max 10 (min v 200) - max 10 (min v 200) % 10) ∧
    (∀ x, (ParamName.turbine u 6).item = some x →
      (ParamName.turbine u 6).stored x p v = max 10 (min v 300) - max 10 (min v 300) % 10) ∧
    (∀ x, (ParamName.bus 1).item = some x → (ParamName.bus 1).stored x p v =
      if v < 57600 then 38400 else if v < 115200 then 57600 else if v < 230400 then 115200 else 230400) ∧
    (∀ x, (ParamName.turbine u 1).item = some x → let s0 := min (min v 500) (p.turbine.get u).sMax
      (ParamName.turbine u 1).stored x p v = s0 ∧
      ((ParamName.turbine u 1).write x p v).turbine.get u = { p.turbine.get u with s0 := s0 }) ∧
    (∀ x, (ParamName.turbine u 4).item = some x → let m := max 50 (min v 1500)
      (ParamName.turbine u 4).stored x p v = m ∧
      ((ParamName.turbine u 4).write x p v).turbine.get u =
        { p.turbine.get u with sMax := m, s0 := min (p.turbine.get u).s0 m }) ∧
    (∀ (n : ParamName) (x : Item Params), n.item = some x → n ≠ .bus 1 → (∀ m, n ≠ .line m 10) →
      (∀ t, n ≠ .turbine t 6 ∧ n ≠ .turbine t 1) → n.stored x p v = max x.lo (min v x.hi))

/-- R211: PARAM GET carries the value in force in 4 bytes and changes nothing; a group or instance that does
not exist is refused RANGE, an item that is not in its group NO_SUCH. -/
def Obligations.ParamGetReadsTheSet : Prop :=
  ∀ (s : State) (tag g i k : Byte), s.block.linkIdle = true →
    (paramName g.toNat i.toNat k.toNat = none → exec (.paramGet tag g i k) s =
      .next (s.withBlock (s.block.repliedRefused .paramGet tag .range 0))) ∧
    (∀ n, paramName g.toNat i.toNat k.toNat = some n → n.item = none → exec (.paramGet tag g i k) s =
      .next (s.withBlock (s.block.repliedRefused .paramGet tag .noSuch 0))) ∧
    (∀ n x, paramName g.toNat i.toNat k.toNat = some n → n.item = some x → exec (.paramGet tag g i k) s =
      .next (s.withBlock (s.block.repliedDone .paramGet tag ([g, i, k] ++ u32 (x.get s.block.cmc.params)))))

/-- Every step keeps the configuration memory in the model's canonical form (notes/assumptions/4.md): addresses
rising inside the 8 KiB of chapter 13 and no cell equal to what an unlisted address reads as. -/
def Obligations.MemoryStaysCanonical : Prop :=
  ∀ s t : State, s.block.memoryOk = true → step s = .next t → t.block.memoryOk = true

/-- The state right after reset (R216, with the model's choices of notes/assumptions/3.md) meets every
invariant stated of steps: the memory's form, the Record Store's serials, the station table, the schedule's
order, the LHV estimate's range, the load's bounds, the parameters' ranges and the balance law. -/
def Obligations.ResetMeetsTheInvariants : Prop :=
  State.reset.block.memoryOk = true ∧ State.reset.block.rcs.ok = true ∧
    State.reset.block.bus.tablesOk = true ∧ schedOk State.reset.block.tdu.queue = true ∧
    State.reset.block.tdu.queue.length ≤ 16 ∧ State.reset.block.cmc.params.ok = true ∧
    State.reset.block.cmc.params.classes.length = 27 ∧
    (∀ l, 1 ≤ (State.reset.block.lineParams l).weight) ∧
    State.reset.block.lhvOk = true ∧ State.reset.block.loadOk = true ∧ State.reset.block.balanceLaw
end

