-- ==== Sys2Proof/Laws/State.lean ====
section
/-! SUPPORT. What each update of one block's record leaves alone, and what it reads back: one fact per
field per update, true by definition, so that no proof unfolds a record update. -/

namespace Sys2Proof.Machine
open Sys2Proof

/-! ## Families -/

@[simp] theorem PerLine.get_set_self {α : Type} (p : PerLine α) (l : LineId) (a : α) :
    (p.set l a).get l = a := by cases l <;> rfl

theorem PerLine.get_set_of_ne {α : Type} (p : PerLine α) {l m : LineId} (a : α) (h : m ≠ l) :
    (p.set l a).get m = p.get m := by cases l <;> cases m <;> first | rfl | exact absurd rfl h

@[simp] theorem PerTurbine.get_set_self {α : Type} (p : PerTurbine α) (t : TurbineId) (a : α) :
    (p.set t a).get t = a := by cases t <;> rfl

theorem PerTurbine.get_set_of_ne {α : Type} (p : PerTurbine α) {t u : TurbineId} (a : α) (h : u ≠ t) :
    (p.set t a).get u = p.get u := by cases t <;> cases u <;> first | rfl | exact absurd rfl h

@[simp] theorem PerPollutant.get_tabulate {α : Type} (f : Pollutant → α) (x : Pollutant) :
    (PerPollutant.tabulate f).get x = f x := by cases x <;> rfl

@[simp] theorem PerLine.get_tabulate {α : Type} (f : LineId → α) (l : LineId) :
    (PerLine.tabulate f).get l = f l := by cases l <;> rfl

namespace Block
variable (b : Block)

/-! ## Fields an update leaves alone -/

@[simp] theorem modLine_frame (l : LineId) (f : Line → Line) :
    (b.modLine l f).ready = b.ready ∧ (b.modLine l f).cause = b.cause ∧
    (b.modLine l f).feedStop = b.feedStop ∧ (b.modLine l f).order = b.order ∧
    (b.modLine l f).clock = b.clock ∧ (b.modLine l f).blu = b.blu ∧
    (b.modLine l f).tdu = b.tdu ∧ (b.modLine l f).bus = b.bus ∧
    (b.modLine l f).link = b.link ∧ (b.modLine l f).notices = b.notices ∧
    (b.modLine l f).rcs = b.rcs ∧ (b.modLine l f).cmc = b.cmc :=
  ⟨rfl, rfl, rfl, rfl, rfl, rfl, rfl, rfl, rfl, rfl, rfl, rfl⟩

@[simp] theorem modLsc_frame (l : LineId) (f : Lsc → Lsc) :
    (b.modLsc l f).ready = b.ready ∧ (b.modLsc l f).cause = b.cause ∧
    (b.modLsc l f).feedStop = b.feedStop ∧ (b.modLsc l f).order = b.order ∧
    (b.modLsc l f).clock = b.clock ∧ (b.modLsc l f).blu = b.blu ∧
    (b.modLsc l f).tdu = b.tdu ∧ (b.modLsc l f).bus = b.bus ∧
    (b.modLsc l f).link = b.link ∧ (b.modLsc l f).notices = b.notices ∧
    (b.modLsc l f).rcs = b.rcs ∧ (b.modLsc l f).cmc = b.cmc :=
  ⟨rfl, rfl, rfl, rfl, rfl, rfl, rfl, rfl, rfl, rfl, rfl, rfl⟩

@[simp] theorem modGfu_frame (l : LineId) (f : Gfu → Gfu) :
    (b.modGfu l f).ready = b.ready ∧ (b.modGfu l f).cause = b.cause ∧
    (b.modGfu l f).feedStop = b.feedStop ∧ (b.modGfu l f).order = b.order ∧
    (b.modGfu l f).clock = b.clock ∧ (b.modGfu l f).blu = b.blu ∧
    (b.modGfu l f).tdu = b.tdu ∧ (b.modGfu l f).bus = b.bus ∧
    (b.modGfu l f).link = b.link ∧ (b.modGfu l f).notices = b.notices ∧
    (b.modGfu l f).rcs = b.rcs ∧ (b.modGfu l f).cmc = b.cmc :=
  ⟨rfl, rfl, rfl, rfl, rfl, rfl, rfl, rfl, rfl, rfl, rfl, rfl⟩

@[simp] theorem modEau_frame (l : LineId) (f : Eau → Eau) :
    (b.modEau l f).ready = b.ready ∧ (b.modEau l f).cause = b.cause ∧
    (b.modEau l f).feedStop = b.feedStop ∧ (b.modEau l f).order = b.order ∧
    (b.modEau l f).clock = b.clock ∧ (b.modEau l f).blu = b.blu ∧
    (b.modEau l f).tdu = b.tdu ∧ (b.modEau l f).bus = b.bus ∧
    (b.modEau l f).link = b.link ∧ (b.modEau l f).notices = b.notices ∧
    (b.modEau l f).rcs = b.rcs ∧ (b.modEau l f).cmc = b.cmc :=
  ⟨rfl, rfl, rfl, rfl, rfl, rfl, rfl, rfl, rfl, rfl, rfl, rfl⟩

@[simp] theorem modCcu_frame (l : LineId) (f : Ccu → Ccu) :
    (b.modCcu l f).ready = b.ready ∧ (b.modCcu l f).cause = b.cause ∧
    (b.modCcu l f).feedStop = b.feedStop ∧ (b.modCcu l f).order = b.order ∧
    (b.modCcu l f).clock = b.clock ∧ (b.modCcu l f).blu = b.blu ∧
    (b.modCcu l f).tdu = b.tdu ∧ (b.modCcu l f).bus = b.bus ∧
    (b.modCcu l f).link = b.link ∧ (b.modCcu l f).notices = b.notices ∧
    (b.modCcu l f).rcs = b.rcs ∧ (b.modCcu l f).cmc = b.cmc :=
  ⟨rfl, rfl, rfl, rfl, rfl, rfl, rfl, rfl, rfl, rfl, rfl, rfl⟩

@[simp] theorem modDau_frame (l : LineId) (f : Dau → Dau) :
    (b.modDau l f).ready = b.ready ∧ (b.modDau l f).cause = b.cause ∧
    (b.modDau l f).feedStop = b.feedStop ∧ (b.modDau l f).order = b.order ∧
    (b.modDau l f).clock = b.clock ∧ (b.modDau l f).blu = b.blu ∧
    (b.modDau l f).tdu = b.tdu ∧ (b.modDau l f).bus = b.bus ∧
    (b.modDau l f).link = b.link ∧ (b.modDau l f).notices = b.notices ∧
    (b.modDau l f).rcs = b.rcs ∧ (b.modDau l f).cmc = b.cmc :=
  ⟨rfl, rfl, rfl, rfl, rfl, rfl, rfl, rfl, rfl, rfl, rfl, rfl⟩

@[simp] theorem modBlu_frame (f : Blu → Blu) :
    (b.modBlu f).ready = b.ready ∧ (b.modBlu f).cause = b.cause ∧
    (b.modBlu f).feedStop = b.feedStop ∧ (b.modBlu f).order = b.order ∧
    (b.modBlu f).clock = b.clock ∧ (b.modBlu f).lines = b.lines ∧
    (b.modBlu f).tdu = b.tdu ∧ (b.modBlu f).bus = b.bus ∧
    (b.modBlu f).link = b.link ∧ (b.modBlu f).notices = b.notices ∧
    (b.modBlu f).rcs = b.rcs ∧ (b.modBlu f).cmc = b.cmc :=
  ⟨rfl, rfl, rfl, rfl, rfl, rfl, rfl, rfl, rfl, rfl, rfl, rfl⟩

@[simp] theorem modCopy_frame (l : LineId) (f : LineCopy → LineCopy) :
    (b.modCopy l f).ready = b.ready ∧ (b.modCopy l f).cause = b.cause ∧
    (b.modCopy l f).feedStop = b.feedStop ∧ (b.modCopy l f).order = b.order ∧
    (b.modCopy l f).clock = b.clock ∧ (b.modCopy l f).lines = b.lines ∧
    (b.modCopy l f).tdu = b.tdu ∧ (b.modCopy l f).bus = b.bus ∧
    (b.modCopy l f).link = b.link ∧ (b.modCopy l f).notices = b.notices ∧
    (b.modCopy l f).rcs = b.rcs ∧ (b.modCopy l f).cmc = b.cmc :=
  ⟨rfl, rfl, rfl, rfl, rfl, rfl, rfl, rfl, rfl, rfl, rfl, rfl⟩

@[simp] theorem modTdu_frame (f : Tdu → Tdu) :
    (b.modTdu f).ready = b.ready ∧ (b.modTdu f).cause = b.cause ∧
    (b.modTdu f).feedStop = b.feedStop ∧ (b.modTdu f).order = b.order ∧
    (b.modTdu f).clock = b.clock ∧ (b.modTdu f).lines = b.lines ∧
    (b.modTdu f).blu = b.blu ∧ (b.modTdu f).bus = b.bus ∧
    (b.modTdu f).link = b.link ∧ (b.modTdu f).notices = b.notices ∧
    (b.modTdu f).rcs = b.rcs ∧ (b.modTdu f).cmc = b.cmc :=
  ⟨rfl, rfl, rfl, rfl, rfl, rfl, rfl, rfl, rfl, rfl, rfl, rfl⟩

@[simp] theorem modTurbine_frame (t : TurbineId) (f : Turbine → Turbine) :
    (b.modTurbine t f).ready = b.ready ∧ (b.modTurbine t f).cause = b.cause ∧
    (b.modTurbine t f).feedStop = b.feedStop ∧ (b.modTurbine t f).order = b.order ∧
    (b.modTurbine t f).clock = b.clock ∧ (b.modTurbine t f).lines = b.lines ∧
    (b.modTurbine t f).blu = b.blu ∧ (b.modTurbine t f).bus = b.bus ∧
    (b.modTurbine t f).link = b.link ∧ (b.modTurbine t f).notices = b.notices ∧
    (b.modTurbine t f).rcs = b.rcs ∧ (b.modTurbine t f).cmc = b.cmc :=
  ⟨rfl, rfl, rfl, rfl, rfl, rfl, rfl, rfl, rfl, rfl, rfl, rfl⟩

@[simp] theorem modBus_frame (f : Bus → Bus) :
    (b.modBus f).ready = b.ready ∧ (b.modBus f).cause = b.cause ∧
    (b.modBus f).feedStop = b.feedStop ∧ (b.modBus f).order = b.order ∧
    (b.modBus f).clock = b.clock ∧ (b.modBus f).lines = b.lines ∧
    (b.modBus f).blu = b.blu ∧ (b.modBus f).tdu = b.tdu ∧
    (b.modBus f).link = b.link ∧ (b.modBus f).notices = b.notices ∧
    (b.modBus f).rcs = b.rcs ∧ (b.modBus f).cmc = b.cmc :=
  ⟨rfl, rfl, rfl, rfl, rfl, rfl, rfl, rfl, rfl, rfl, rfl, rfl⟩

@[simp] theorem modWalk_frame (f : Walk → Walk) :
    (b.modWalk f).ready = b.ready ∧ (b.modWalk f).cause = b.cause ∧
    (b.modWalk f).feedStop = b.feedStop ∧ (b.modWalk f).order = b.order ∧
    (b.modWalk f).clock = b.clock ∧ (b.modWalk f).lines = b.lines ∧
    (b.modWalk f).blu = b.blu ∧ (b.modWalk f).tdu = b.tdu ∧
    (b.modWalk f).link = b.link ∧ (b.modWalk f).notices = b.notices ∧
    (b.modWalk f).rcs = b.rcs ∧ (b.modWalk f).cmc = b.cmc :=
  ⟨rfl, rfl, rfl, rfl, rfl, rfl, rfl, rfl, rfl, rfl, rfl, rfl⟩

@[simp] theorem modLink_frame (f : Link → Link) :
    (b.modLink f).ready = b.ready ∧ (b.modLink f).cause = b.cause ∧
    (b.modLink f).feedStop = b.feedStop ∧ (b.modLink f).order = b.order ∧
    (b.modLink f).clock = b.clock ∧ (b.modLink f).lines = b.lines ∧
    (b.modLink f).blu = b.blu ∧ (b.modLink f).tdu = b.tdu ∧
    (b.modLink f).bus = b.bus ∧ (b.modLink f).notices = b.notices ∧
    (b.modLink f).rcs = b.rcs ∧ (b.modLink f).cmc = b.cmc :=
  ⟨rfl, rfl, rfl, rfl, rfl, rfl, rfl, rfl, rfl, rfl, rfl, rfl⟩

@[simp] theorem place_frame (m : List Byte) :
    (b.place m).ready = b.ready ∧ (b.place m).cause = b.cause ∧
    (b.place m).feedStop = b.feedStop ∧ (b.place m).order = b.order ∧
    (b.place m).clock = b.clock ∧ (b.place m).lines = b.lines ∧
    (b.place m).blu = b.blu ∧ (b.place m).tdu = b.tdu ∧
    (b.place m).bus = b.bus ∧ (b.place m).notices = b.notices ∧
    (b.place m).rcs = b.rcs ∧ (b.place m).cmc = b.cmc :=
  ⟨rfl, rfl, rfl, rfl, rfl, rfl, rfl, rfl, rfl, rfl, rfl, rfl⟩

@[simp] theorem modNotices_frame (f : List NoticeEntry → List NoticeEntry) :
    (b.modNotices f).ready = b.ready ∧ (b.modNotices f).cause = b.cause ∧
    (b.modNotices f).feedStop = b.feedStop ∧ (b.modNotices f).order = b.order ∧
    (b.modNotices f).clock = b.clock ∧ (b.modNotices f).lines = b.lines ∧
    (b.modNotices f).blu = b.blu ∧ (b.modNotices f).tdu = b.tdu ∧
    (b.modNotices f).bus = b.bus ∧ (b.modNotices f).link = b.link ∧
    (b.modNotices f).rcs = b.rcs ∧ (b.modNotices f).cmc = b.cmc :=
  ⟨rfl, rfl, rfl, rfl, rfl, rfl, rfl, rfl, rfl, rfl, rfl, rfl⟩

@[simp] theorem modCmc_frame (f : Cmc → Cmc) :
    (b.modCmc f).ready = b.ready ∧ (b.modCmc f).cause = b.cause ∧
    (b.modCmc f).feedStop = b.feedStop ∧ (b.modCmc f).order = b.order ∧
    (b.modCmc f).clock = b.clock ∧ (b.modCmc f).lines = b.lines ∧
    (b.modCmc f).blu = b.blu ∧ (b.modCmc f).tdu = b.tdu ∧
    (b.modCmc f).bus = b.bus ∧ (b.modCmc f).link = b.link ∧
    (b.modCmc f).notices = b.notices ∧ (b.modCmc f).rcs = b.rcs :=
  ⟨rfl, rfl, rfl, rfl, rfl, rfl, rfl, rfl, rfl, rfl, rfl, rfl⟩

/-! ## What an update reads back -/

@[simp] theorem modLine_line_self (l : LineId) (f : Line → Line) : (b.modLine l f).line l = f (b.line l) := by
  simp [modLine, line]

theorem modLine_line_of_ne {l m : LineId} (f : Line → Line) (h : m ≠ l) :
    (b.modLine l f).line m = b.line m := by
  simp [modLine, line, PerLine.get_set_of_ne _ _ h]

@[simp] theorem modLsc_line_self (l : LineId) (f : Lsc → Lsc) : (b.modLsc l f).line l = { b.line l with lsc := f (b.line l).lsc } := by
  simp [modLsc, modLine, line]

theorem modLsc_line_of_ne {l m : LineId} (f : Lsc → Lsc) (h : m ≠ l) :
    (b.modLsc l f).line m = b.line m := by
  simp [modLsc, modLine, line, PerLine.get_set_of_ne _ _ h]

@[simp] theorem modGfu_line_self (l : LineId) (f : Gfu → Gfu) : (b.modGfu l f).line l = { b.line l with gfu := f (b.line l).gfu } := by
  simp [modGfu, modLine, line]

theorem modGfu_line_of_ne {l m : LineId} (f : Gfu → Gfu) (h : m ≠ l) :
    (b.modGfu l f).line m = b.line m := by
  simp [modGfu, modLine, line, PerLine.get_set_of_ne _ _ h]

@[simp] theorem modEau_line_self (l : LineId) (f : Eau → Eau) : (b.modEau l f).line l = { b.line l with eau := f (b.line l).eau } := by
  simp [modEau, modLine, line]

theorem modEau_line_of_ne {l m : LineId} (f : Eau → Eau) (h : m ≠ l) :
    (b.modEau l f).line m = b.line m := by
  simp [modEau, modLine, line, PerLine.get_set_of_ne _ _ h]

@[simp] theorem modCcu_line_self (l : LineId) (f : Ccu → Ccu) : (b.modCcu l f).line l = { b.line l with ccu := f (b.line l).ccu } := by
  simp [modCcu, modLine, line]

theorem modCcu_line_of_ne {l m : LineId} (f : Ccu → Ccu) (h : m ≠ l) :
    (b.modCcu l f).line m = b.line m := by
  simp [modCcu, modLine, line, PerLine.get_set_of_ne _ _ h]

@[simp] theorem modDau_line_self (l : LineId) (f : Dau → Dau) : (b.modDau l f).line l = { b.line l with dau := f (b.line l).dau } := by
  simp [modDau, modLine, line]

theorem modDau_line_of_ne {l m : LineId} (f : Dau → Dau) (h : m ≠ l) :
    (b.modDau l f).line m = b.line m := by
  simp [modDau, modLine, line, PerLine.get_set_of_ne _ _ h]

@[simp] theorem modCopy_get_self (l : LineId) (f : LineCopy → LineCopy) :
    (b.modCopy l f).blu.copies.get l = f (b.blu.copies.get l) := by simp [modCopy, modBlu]

theorem modCopy_get_of_ne {l m : LineId} (f : LineCopy → LineCopy) (h : m ≠ l) :
    (b.modCopy l f).blu.copies.get m = b.blu.copies.get m := by
  simp [modCopy, modBlu, PerLine.get_set_of_ne _ _ h]

@[simp] theorem modTurbine_turbine_self (t : TurbineId) (f : Turbine → Turbine) :
    (b.modTurbine t f).turbine t = f (b.turbine t) := by simp [modTurbine, modTdu, turbine]

theorem modTurbine_turbine_of_ne {t u : TurbineId} (f : Turbine → Turbine) (h : u ≠ t) :
    (b.modTurbine t f).turbine u = b.turbine u := by
  simp [modTurbine, modTdu, turbine, PerTurbine.get_set_of_ne _ _ h]

@[simp] theorem modBlu_blu (f : Blu → Blu) : (b.modBlu f).blu = f b.blu := rfl
@[simp] theorem modTdu_tdu (f : Tdu → Tdu) : (b.modTdu f).tdu = f b.tdu := rfl
@[simp] theorem modBus_bus (f : Bus → Bus) : (b.modBus f).bus = f b.bus := rfl
@[simp] theorem modWalk_bus (f : Walk → Walk) :
    (b.modWalk f).bus = { b.bus with walk := f b.bus.walk } := rfl
@[simp] theorem modLink_link (f : Link → Link) : (b.modLink f).link = f b.link := rfl
@[simp] theorem place_link (m : List Byte) :
    (b.place m).link = { b.link with outbound := b.link.outbound ++ [m] } := rfl
@[simp] theorem modNotices_floor (f : List NoticeEntry → List NoticeEntry) :
    (b.modNotices f).notices.floor = b.notices.floor := rfl
@[simp] theorem modNotices_entries (f : List NoticeEntry → List NoticeEntry) :
    (b.modNotices f).notices.entries = f b.notices.entries := rfl
@[simp] theorem modCmc_cmc (f : Cmc → Cmc) : (b.modCmc f).cmc = f b.cmc := rfl

end Block

/-! ## An entry bound and unbound -/

@[simp] theorem Station.bind_role (r : Role) (e : Station) : (e.bind r).role = some r := rfl
@[simp] theorem Station.bind_number (r : Role) (e : Station) : (e.bind r).number = e.number := rfl
@[simp] theorem Station.bind_lost (r : Role) (e : Station) : (e.bind r).lost = e.lost := rfl
@[simp] theorem Station.bind_returnBound (r : Role) (e : Station) :
    (e.bind r).returnBound = (e.lost || e.returnBound) := rfl
@[simp] theorem Station.unbind_role (e : Station) : e.unbind.role = none := rfl
@[simp] theorem Station.unbind_number (e : Station) : e.unbind.number = e.number := rfl
@[simp] theorem Station.unbind_lost (e : Station) : e.unbind.lost = e.lost := rfl
@[simp] theorem Station.unbind_returnBound (e : Station) :
    e.unbind.returnBound = (!e.lost && e.returnBound) := rfl

/-! ## The queue and the part -/

@[simp] theorem State.onBlock_next (f : Block → Block) (s : State) :
    s.onBlock f = .next { s with block := f s.block } := rfl

end Sys2Proof.Machine
end

