-- ==== Sys2Proof/Laws/Frames.lean ====
section
/-! SUPPORT. What each operation leaves alone: one lemma per operation, naming every block it cannot
change. The provers cite these instead of unfolding the operations. -/

namespace Sys2Proof.Machine
open Sys2Proof
namespace Block
variable (b : Block)

@[simp] theorem announce_frame (k : NoticeKind) (n : Nat) :
    (b.announce k n).ready = b.ready ∧ (b.announce k n).cause = b.cause ∧ (b.announce k n).feedStop = b.feedStop ∧
    (b.announce k n).order = b.order ∧ (b.announce k n).clock = b.clock ∧ (b.announce k n).lines = b.lines ∧
    (b.announce k n).blu = b.blu ∧ (b.announce k n).tdu = b.tdu ∧ (b.announce k n).bus = b.bus ∧
    (b.announce k n).rcs = b.rcs ∧ (b.announce k n).cmc = b.cmc := by
  unfold announce
  (repeat' split) <;> simp

@[simp] theorem raise_frame (k : NoticeKind) (n : Nat) (d : List Byte) :
    (b.raise k n d).ready = b.ready ∧ (b.raise k n d).cause = b.cause ∧ (b.raise k n d).feedStop = b.feedStop ∧
    (b.raise k n d).order = b.order ∧ (b.raise k n d).clock = b.clock ∧ (b.raise k n d).lines = b.lines ∧
    (b.raise k n d).blu = b.blu ∧ (b.raise k n d).tdu = b.tdu ∧ (b.raise k n d).bus = b.bus ∧
    (b.raise k n d).rcs = b.rcs ∧ (b.raise k n d).cmc = b.cmc := by
  unfold raise
  (repeat' split) <;> simp

@[simp] theorem raiseLine_frame (k : NoticeKind) (l : LineId) (d : List Byte) :
    (b.raiseLine k l d).ready = b.ready ∧ (b.raiseLine k l d).cause = b.cause ∧ (b.raiseLine k l d).feedStop = b.feedStop ∧
    (b.raiseLine k l d).order = b.order ∧ (b.raiseLine k l d).clock = b.clock ∧ (b.raiseLine k l d).lines = b.lines ∧
    (b.raiseLine k l d).blu = b.blu ∧ (b.raiseLine k l d).tdu = b.tdu ∧ (b.raiseLine k l d).bus = b.bus ∧
    (b.raiseLine k l d).rcs = b.rcs ∧ (b.raiseLine k l d).cmc = b.cmc := by
  unfold raiseLine
  simp

@[simp] theorem enterRecord_frame (l : LineId) (r : RecordBody) :
    (b.enterRecord l r).ready = b.ready ∧ (b.enterRecord l r).cause = b.cause ∧ (b.enterRecord l r).feedStop = b.feedStop ∧
    (b.enterRecord l r).order = b.order ∧ (b.enterRecord l r).clock = b.clock ∧ (b.enterRecord l r).lines = b.lines ∧
    (b.enterRecord l r).blu = b.blu ∧ (b.enterRecord l r).tdu = b.tdu ∧ (b.enterRecord l r).bus = b.bus ∧
    (b.enterRecord l r).cmc = b.cmc := by
  unfold enterRecord
  (repeat' split) <;> simp

@[simp] theorem recompute_frame (l : LineId) :
    (b.recompute l).ready = b.ready ∧ (b.recompute l).cause = b.cause ∧ (b.recompute l).feedStop = b.feedStop ∧
    (b.recompute l).order = b.order ∧ (b.recompute l).clock = b.clock ∧ (b.recompute l).tdu = b.tdu ∧
    (b.recompute l).bus = b.bus ∧ (b.recompute l).link = b.link ∧ (b.recompute l).notices = b.notices ∧
    (b.recompute l).rcs = b.rcs ∧ (b.recompute l).cmc = b.cmc := by
  unfold recompute
  dsimp only
  (repeat' split) <;> simp

@[simp] theorem setHostCeiling_frame (l : LineId) (v : Nat) :
    (b.setHostCeiling l v).ready = b.ready ∧ (b.setHostCeiling l v).cause = b.cause ∧ (b.setHostCeiling l v).feedStop = b.feedStop ∧
    (b.setHostCeiling l v).order = b.order ∧ (b.setHostCeiling l v).clock = b.clock ∧ (b.setHostCeiling l v).tdu = b.tdu ∧
    (b.setHostCeiling l v).bus = b.bus ∧ (b.setHostCeiling l v).link = b.link ∧ (b.setHostCeiling l v).notices = b.notices ∧
    (b.setHostCeiling l v).rcs = b.rcs ∧ (b.setHostCeiling l v).cmc = b.cmc := by
  unfold setHostCeiling
  simp

@[simp] theorem takeCauses_frame (l : LineId) (c : Causes) :
    (b.takeCauses l c).ready = b.ready ∧ (b.takeCauses l c).cause = b.cause ∧ (b.takeCauses l c).feedStop = b.feedStop ∧
    (b.takeCauses l c).order = b.order ∧ (b.takeCauses l c).clock = b.clock ∧ (b.takeCauses l c).tdu = b.tdu ∧
    (b.takeCauses l c).bus = b.bus ∧ (b.takeCauses l c).link = b.link ∧ (b.takeCauses l c).notices = b.notices ∧
    (b.takeCauses l c).rcs = b.rcs ∧ (b.takeCauses l c).cmc = b.cmc := by
  unfold takeCauses
  (repeat' split) <;> simp

@[simp] theorem deviationCeilingWritten_frame (l : LineId) :
    (b.deviationCeilingWritten l).ready = b.ready ∧ (b.deviationCeilingWritten l).cause = b.cause ∧ (b.deviationCeilingWritten l).feedStop = b.feedStop ∧
    (b.deviationCeilingWritten l).order = b.order ∧ (b.deviationCeilingWritten l).clock = b.clock ∧ (b.deviationCeilingWritten l).tdu = b.tdu ∧
    (b.deviationCeilingWritten l).bus = b.bus ∧ (b.deviationCeilingWritten l).link = b.link ∧ (b.deviationCeilingWritten l).notices = b.notices ∧
    (b.deviationCeilingWritten l).rcs = b.rcs ∧ (b.deviationCeilingWritten l).cmc = b.cmc := by
  unfold deviationCeilingWritten
  (repeat' split) <;> simp

@[simp] theorem ccuEnter_frame (l : LineId) (st : LineState) :
    (b.ccuEnter l st).ready = b.ready ∧ (b.ccuEnter l st).cause = b.cause ∧ (b.ccuEnter l st).feedStop = b.feedStop ∧
    (b.ccuEnter l st).order = b.order ∧ (b.ccuEnter l st).clock = b.clock ∧ (b.ccuEnter l st).tdu = b.tdu ∧
    (b.ccuEnter l st).bus = b.bus ∧ (b.ccuEnter l st).link = b.link ∧ (b.ccuEnter l st).notices = b.notices ∧
    (b.ccuEnter l st).rcs = b.rcs ∧ (b.ccuEnter l st).cmc = b.cmc := by
  unfold ccuEnter
  (repeat' split) <;> simp

@[simp] theorem raiseReagentLimit_frame (l : LineId) :
    (b.raiseReagentLimit l).ready = b.ready ∧ (b.raiseReagentLimit l).cause = b.cause ∧ (b.raiseReagentLimit l).feedStop = b.feedStop ∧
    (b.raiseReagentLimit l).order = b.order ∧ (b.raiseReagentLimit l).clock = b.clock ∧ (b.raiseReagentLimit l).lines = b.lines ∧
    (b.raiseReagentLimit l).blu = b.blu ∧ (b.raiseReagentLimit l).tdu = b.tdu ∧ (b.raiseReagentLimit l).bus = b.bus ∧
    (b.raiseReagentLimit l).rcs = b.rcs ∧ (b.raiseReagentLimit l).cmc = b.cmc := by
  unfold raiseReagentLimit
  dsimp only
  (repeat' split) <;> simp

@[simp] theorem raiseGuardActive_frame (l : LineId) (g : Bool) (x : Option Pollutant) :
    (b.raiseGuardActive l g x).ready = b.ready ∧ (b.raiseGuardActive l g x).cause = b.cause ∧ (b.raiseGuardActive l g x).feedStop = b.feedStop ∧
    (b.raiseGuardActive l g x).order = b.order ∧ (b.raiseGuardActive l g x).clock = b.clock ∧ (b.raiseGuardActive l g x).lines = b.lines ∧
    (b.raiseGuardActive l g x).blu = b.blu ∧ (b.raiseGuardActive l g x).tdu = b.tdu ∧ (b.raiseGuardActive l g x).bus = b.bus ∧
    (b.raiseGuardActive l g x).rcs = b.rcs ∧ (b.raiseGuardActive l g x).cmc = b.cmc := by
  unfold raiseGuardActive
  (repeat' split) <;> simp

@[simp] theorem minuteWork_frame (l : LineId) (h : HandOver) :
    (b.minuteWork l h).ready = b.ready ∧ (b.minuteWork l h).cause = b.cause ∧ (b.minuteWork l h).feedStop = b.feedStop ∧
    (b.minuteWork l h).order = b.order ∧ (b.minuteWork l h).clock = b.clock ∧ (b.minuteWork l h).tdu = b.tdu ∧
    (b.minuteWork l h).bus = b.bus ∧ (b.minuteWork l h).rcs = b.rcs ∧ (b.minuteWork l h).cmc = b.cmc := by
  unfold minuteWork
  (repeat' split) <;> simp

@[simp] theorem ccuClose_frame (l : LineId) (m : MinuteId) :
    (b.ccuClose l m).ready = b.ready ∧ (b.ccuClose l m).cause = b.cause ∧ (b.ccuClose l m).feedStop = b.feedStop ∧
    (b.ccuClose l m).order = b.order ∧ (b.ccuClose l m).clock = b.clock ∧ (b.ccuClose l m).tdu = b.tdu ∧
    (b.ccuClose l m).bus = b.bus ∧ (b.ccuClose l m).rcs = b.rcs ∧ (b.ccuClose l m).cmc = b.cmc := by
  unfold ccuClose
  (repeat' split) <;> simp

@[simp] theorem ccuHandOver_frame (l : LineId) (h : HandOver) :
    (b.ccuHandOver l h).ready = b.ready ∧ (b.ccuHandOver l h).cause = b.cause ∧ (b.ccuHandOver l h).feedStop = b.feedStop ∧
    (b.ccuHandOver l h).order = b.order ∧ (b.ccuHandOver l h).clock = b.clock ∧ (b.ccuHandOver l h).tdu = b.tdu ∧
    (b.ccuHandOver l h).bus = b.bus ∧ (b.ccuHandOver l h).rcs = b.rcs ∧ (b.ccuHandOver l h).cmc = b.cmc := by
  unfold ccuHandOver
  (repeat' split) <;> simp

@[simp] theorem openEpisode_frame (l : LineId) :
    (b.openEpisode l).ready = b.ready ∧ (b.openEpisode l).cause = b.cause ∧ (b.openEpisode l).feedStop = b.feedStop ∧
    (b.openEpisode l).order = b.order ∧ (b.openEpisode l).clock = b.clock ∧ (b.openEpisode l).blu = b.blu ∧
    (b.openEpisode l).tdu = b.tdu ∧ (b.openEpisode l).bus = b.bus ∧ (b.openEpisode l).rcs = b.rcs ∧
    (b.openEpisode l).cmc = b.cmc := by
  unfold openEpisode
  simp

@[simp] theorem closeEpisode_frame (l : LineId) (r : CloseReason) :
    (b.closeEpisode l r).ready = b.ready ∧ (b.closeEpisode l r).cause = b.cause ∧ (b.closeEpisode l r).feedStop = b.feedStop ∧
    (b.closeEpisode l r).order = b.order ∧ (b.closeEpisode l r).clock = b.clock ∧ (b.closeEpisode l r).blu = b.blu ∧
    (b.closeEpisode l r).tdu = b.tdu ∧ (b.closeEpisode l r).bus = b.bus ∧ (b.closeEpisode l r).cmc = b.cmc := by
  unfold closeEpisode
  (repeat' split) <;> simp

@[simp] theorem setCause_frame (l : LineId) (x : Cause) (p : Bool) :
    (b.setCause l x p).ready = b.ready ∧ (b.setCause l x p).cause = b.cause ∧ (b.setCause l x p).feedStop = b.feedStop ∧
    (b.setCause l x p).order = b.order ∧ (b.setCause l x p).clock = b.clock ∧ (b.setCause l x p).tdu = b.tdu ∧
    (b.setCause l x p).bus = b.bus ∧ (b.setCause l x p).cmc = b.cmc := by
  unfold setCause
  dsimp only
  (repeat' split) <;> simp

@[simp] theorem dauEnter_frame (l : LineId) (st : LineState) :
    (b.dauEnter l st).ready = b.ready ∧ (b.dauEnter l st).cause = b.cause ∧ (b.dauEnter l st).feedStop = b.feedStop ∧
    (b.dauEnter l st).order = b.order ∧ (b.dauEnter l st).clock = b.clock ∧ (b.dauEnter l st).blu = b.blu ∧
    (b.dauEnter l st).tdu = b.tdu ∧ (b.dauEnter l st).bus = b.bus ∧ (b.dauEnter l st).cmc = b.cmc := by
  unfold dauEnter
  (repeat' split) <;> simp

@[simp] theorem dosingEvent_frame (l : LineId) (f : Ccu → Ccu) :
    (b.dosingEvent l f).ready = b.ready ∧ (b.dosingEvent l f).cause = b.cause ∧ (b.dosingEvent l f).feedStop = b.feedStop ∧
    (b.dosingEvent l f).order = b.order ∧ (b.dosingEvent l f).clock = b.clock ∧ (b.dosingEvent l f).tdu = b.tdu ∧
    (b.dosingEvent l f).bus = b.bus ∧ (b.dosingEvent l f).cmc = b.cmc := by
  unfold dosingEvent
  dsimp only
  (repeat' split) <;> simp

@[simp] theorem dosingReply_frame (l : LineId) (n : Nat) (o : OkFault) (r : Bool) :
    (b.dosingReply l n o r).ready = b.ready ∧ (b.dosingReply l n o r).cause = b.cause ∧ (b.dosingReply l n o r).feedStop = b.feedStop ∧
    (b.dosingReply l n o r).order = b.order ∧ (b.dosingReply l n o r).clock = b.clock ∧ (b.dosingReply l n o r).tdu = b.tdu ∧
    (b.dosingReply l n o r).bus = b.bus ∧ (b.dosingReply l n o r).cmc = b.cmc := by
  unfold dosingReply
  simp

@[simp] theorem dosingLoss_frame (l : LineId) :
    (b.dosingLoss l).ready = b.ready ∧ (b.dosingLoss l).cause = b.cause ∧ (b.dosingLoss l).feedStop = b.feedStop ∧
    (b.dosingLoss l).order = b.order ∧ (b.dosingLoss l).clock = b.clock ∧ (b.dosingLoss l).tdu = b.tdu ∧
    (b.dosingLoss l).bus = b.bus ∧ (b.dosingLoss l).cmc = b.cmc := by
  unfold dosingLoss
  simp

@[simp] theorem dosingBound_frame (l : LineId) (x : Bool) :
    (b.dosingBound l x).ready = b.ready ∧ (b.dosingBound l x).cause = b.cause ∧ (b.dosingBound l x).feedStop = b.feedStop ∧
    (b.dosingBound l x).order = b.order ∧ (b.dosingBound l x).clock = b.clock ∧ (b.dosingBound l x).tdu = b.tdu ∧
    (b.dosingBound l x).bus = b.bus ∧ (b.dosingBound l x).cmc = b.cmc := by
  unfold dosingBound
  simp

@[simp] theorem dosingUnbound_frame (l : LineId) :
    (b.dosingUnbound l).ready = b.ready ∧ (b.dosingUnbound l).cause = b.cause ∧ (b.dosingUnbound l).feedStop = b.feedStop ∧
    (b.dosingUnbound l).order = b.order ∧ (b.dosingUnbound l).clock = b.clock ∧ (b.dosingUnbound l).tdu = b.tdu ∧
    (b.dosingUnbound l).bus = b.bus ∧ (b.dosingUnbound l).cmc = b.cmc := by
  unfold dosingUnbound
  simp

@[simp] theorem enter_frame (l : LineId) (st : LineState) :
    (b.enter l st).ready = b.ready ∧ (b.enter l st).cause = b.cause ∧ (b.enter l st).feedStop = b.feedStop ∧
    (b.enter l st).order = b.order ∧ (b.enter l st).clock = b.clock ∧ (b.enter l st).tdu = b.tdu ∧
    (b.enter l st).bus = b.bus ∧ (b.enter l st).cmc = b.cmc := by
  unfold enter
  simp

@[simp] theorem enterRundown_frame (l : LineId) (c : RundownCause) :
    (b.enterRundown l c).ready = b.ready ∧ (b.enterRundown l c).cause = b.cause ∧ (b.enterRundown l c).feedStop = b.feedStop ∧
    (b.enterRundown l c).order = b.order ∧ (b.enterRundown l c).clock = b.clock ∧ (b.enterRundown l c).tdu = b.tdu ∧
    (b.enterRundown l c).bus = b.bus ∧ (b.enterRundown l c).cmc = b.cmc := by
  unfold enterRundown
  simp

@[simp] theorem takeRundown_frame (l : LineId) (c : RundownCause) :
    (b.takeRundown l c).ready = b.ready ∧ (b.takeRundown l c).cause = b.cause ∧ (b.takeRundown l c).feedStop = b.feedStop ∧
    (b.takeRundown l c).order = b.order ∧ (b.takeRundown l c).clock = b.clock ∧ (b.takeRundown l c).tdu = b.tdu ∧
    (b.takeRundown l c).bus = b.bus ∧ (b.takeRundown l c).cmc = b.cmc := by
  unfold takeRundown
  (repeat' split) <;> simp

@[simp] theorem deliverLimit_frame (l : LineId) (c : Option RundownCause) :
    (b.deliverLimit l c).ready = b.ready ∧ (b.deliverLimit l c).cause = b.cause ∧ (b.deliverLimit l c).feedStop = b.feedStop ∧
    (b.deliverLimit l c).order = b.order ∧ (b.deliverLimit l c).clock = b.clock ∧ (b.deliverLimit l c).tdu = b.tdu ∧
    (b.deliverLimit l c).bus = b.bus ∧ (b.deliverLimit l c).cmc = b.cmc := by
  simp [deliverLimit]

@[simp] theorem takeLimit_frame (l : LineId) :
    (b.takeLimit l).ready = b.ready ∧ (b.takeLimit l).cause = b.cause ∧ (b.takeLimit l).feedStop = b.feedStop ∧
    (b.takeLimit l).order = b.order ∧ (b.takeLimit l).clock = b.clock ∧ (b.takeLimit l).tdu = b.tdu ∧
    (b.takeLimit l).bus = b.bus ∧ (b.takeLimit l).cmc = b.cmc := by
  unfold takeLimit
  split <;> simp

@[simp] theorem takeLimits_frame :
    (b.takeLimits).ready = b.ready ∧ (b.takeLimits).cause = b.cause ∧ (b.takeLimits).feedStop = b.feedStop ∧
    (b.takeLimits).order = b.order ∧ (b.takeLimits).clock = b.clock ∧ (b.takeLimits).tdu = b.tdu ∧
    (b.takeLimits).bus = b.bus ∧ (b.takeLimits).cmc = b.cmc := by
  simp [takeLimits, allLines, List.foldl]

/-- What taking a waiting rundown can do to its line: nothing where none waits; in FIRING or HOLD the entry to
RUNDOWN with its cause; else no more than that it waits no longer. -/
theorem takeLimit_spec (l : LineId) :
    ((b.line l).lsc.limitDue = none → b.takeLimit l = b) ∧
    ∀ c, (b.line l).lsc.limitDue = some c →
      (b.inService l = true →
        b.takeLimit l = (b.enterRundown l c).modLsc l fun x => { x with limitDue := none }) ∧
      (b.inService l = false → b.takeLimit l = b.modLsc l fun x => { x with limitDue := none }) := by
  refine ⟨fun h => by simp [takeLimit, h], fun c h => ⟨fun s => ?_, fun s => ?_⟩⟩ <;>
    simp [takeLimit, takeRundown, h, s]

@[simp] theorem enterIdle_frame (l : LineId) :
    (b.enterIdle l).ready = b.ready ∧ (b.enterIdle l).cause = b.cause ∧ (b.enterIdle l).feedStop = b.feedStop ∧
    (b.enterIdle l).order = b.order ∧ (b.enterIdle l).clock = b.clock ∧ (b.enterIdle l).tdu = b.tdu ∧
    (b.enterIdle l).bus = b.bus ∧ (b.enterIdle l).cmc = b.cmc := by
  unfold enterIdle
  simp

@[simp] theorem enterWarmup_frame (l : LineId) (x : Bool) :
    (b.enterWarmup l x).ready = b.ready ∧ (b.enterWarmup l x).cause = b.cause ∧ (b.enterWarmup l x).feedStop = b.feedStop ∧
    (b.enterWarmup l x).order = b.order ∧ (b.enterWarmup l x).clock = b.clock ∧ (b.enterWarmup l x).tdu = b.tdu ∧
    (b.enterWarmup l x).bus = b.bus ∧ (b.enterWarmup l x).cmc = b.cmc := by
  unfold enterWarmup
  simp

@[simp] theorem enterHold_frame (l : LineId) (c : TempCause) :
    (b.enterHold l c).ready = b.ready ∧ (b.enterHold l c).cause = b.cause ∧ (b.enterHold l c).feedStop = b.feedStop ∧
    (b.enterHold l c).order = b.order ∧ (b.enterHold l c).clock = b.clock ∧ (b.enterHold l c).tdu = b.tdu ∧
    (b.enterHold l c).bus = b.bus ∧ (b.enterHold l c).cmc = b.cmc := by
  unfold enterHold
  simp

@[simp] theorem furnaceSample_frame (l : LineId) (n : Nat) (o : OkFault) :
    (b.furnaceSample l n o).ready = b.ready ∧ (b.furnaceSample l n o).cause = b.cause ∧ (b.furnaceSample l n o).feedStop = b.feedStop ∧
    (b.furnaceSample l n o).order = b.order ∧ (b.furnaceSample l n o).clock = b.clock ∧ (b.furnaceSample l n o).tdu = b.tdu ∧
    (b.furnaceSample l n o).bus = b.bus ∧ (b.furnaceSample l n o).cmc = b.cmc := by
  unfold furnaceSample
  dsimp only
  (repeat' split) <;> simp

@[simp] theorem furnaceCleared_frame (l : LineId) :
    (b.furnaceCleared l).ready = b.ready ∧ (b.furnaceCleared l).cause = b.cause ∧ (b.furnaceCleared l).feedStop = b.feedStop ∧
    (b.furnaceCleared l).order = b.order ∧ (b.furnaceCleared l).clock = b.clock ∧ (b.furnaceCleared l).blu = b.blu ∧
    (b.furnaceCleared l).tdu = b.tdu ∧ (b.furnaceCleared l).bus = b.bus ∧ (b.furnaceCleared l).link = b.link ∧
    (b.furnaceCleared l).notices = b.notices ∧ (b.furnaceCleared l).rcs = b.rcs ∧ (b.furnaceCleared l).cmc = b.cmc := by
  unfold furnaceCleared
  simp

@[simp] theorem furnaceLoss_frame (l : LineId) :
    (b.furnaceLoss l).ready = b.ready ∧ (b.furnaceLoss l).cause = b.cause ∧ (b.furnaceLoss l).feedStop = b.feedStop ∧
    (b.furnaceLoss l).order = b.order ∧ (b.furnaceLoss l).clock = b.clock ∧ (b.furnaceLoss l).tdu = b.tdu ∧
    (b.furnaceLoss l).bus = b.bus ∧ (b.furnaceLoss l).cmc = b.cmc := by
  unfold furnaceLoss
  (repeat' split) <;> simp

@[simp] theorem feedFault_frame (l : LineId) (x : Bool) :
    (b.feedFault l x).ready = b.ready ∧ (b.feedFault l x).cause = b.cause ∧ (b.feedFault l x).feedStop = b.feedStop ∧
    (b.feedFault l x).order = b.order ∧ (b.feedFault l x).clock = b.clock ∧ (b.feedFault l x).tdu = b.tdu ∧
    (b.feedFault l x).bus = b.bus ∧ (b.feedFault l x).cmc = b.cmc := by
  unfold feedFault
  (repeat' split) <;> simp

@[simp] theorem feederLoss_frame (l : LineId) :
    (b.feederLoss l).ready = b.ready ∧ (b.feederLoss l).cause = b.cause ∧ (b.feederLoss l).feedStop = b.feedStop ∧
    (b.feederLoss l).order = b.order ∧ (b.feederLoss l).clock = b.clock ∧ (b.feederLoss l).tdu = b.tdu ∧
    (b.feederLoss l).bus = b.bus ∧ (b.feederLoss l).cmc = b.cmc := by
  unfold feederLoss
  simp

@[simp] theorem tryFire_frame (l : LineId) :
    (b.tryFire l).ready = b.ready ∧ (b.tryFire l).cause = b.cause ∧ (b.tryFire l).feedStop = b.feedStop ∧
    (b.tryFire l).order = b.order ∧ (b.tryFire l).clock = b.clock ∧ (b.tryFire l).tdu = b.tdu ∧
    (b.tryFire l).bus = b.bus ∧ (b.tryFire l).cmc = b.cmc := by
  unfold tryFire
  (repeat' split) <;> simp

@[simp] theorem tryHoldReturn_frame (l : LineId) :
    (b.tryHoldReturn l).ready = b.ready ∧ (b.tryHoldReturn l).cause = b.cause ∧ (b.tryHoldReturn l).feedStop = b.feedStop ∧
    (b.tryHoldReturn l).order = b.order ∧ (b.tryHoldReturn l).clock = b.clock ∧ (b.tryHoldReturn l).tdu = b.tdu ∧
    (b.tryHoldReturn l).bus = b.bus ∧ (b.tryHoldReturn l).cmc = b.cmc := by
  unfold tryHoldReturn
  (repeat' split) <;> simp

@[simp] theorem tryHoldLimit_frame (l : LineId) :
    (b.tryHoldLimit l).ready = b.ready ∧ (b.tryHoldLimit l).cause = b.cause ∧ (b.tryHoldLimit l).feedStop = b.feedStop ∧
    (b.tryHoldLimit l).order = b.order ∧ (b.tryHoldLimit l).clock = b.clock ∧ (b.tryHoldLimit l).tdu = b.tdu ∧
    (b.tryHoldLimit l).bus = b.bus ∧ (b.tryHoldLimit l).cmc = b.cmc := by
  unfold tryHoldLimit
  (repeat' split) <;> simp

@[simp] theorem tryBurnoutEnd_frame (l : LineId) :
    (b.tryBurnoutEnd l).ready = b.ready ∧ (b.tryBurnoutEnd l).cause = b.cause ∧ (b.tryBurnoutEnd l).feedStop = b.feedStop ∧
    (b.tryBurnoutEnd l).order = b.order ∧ (b.tryBurnoutEnd l).clock = b.clock ∧ (b.tryBurnoutEnd l).tdu = b.tdu ∧
    (b.tryBurnoutEnd l).bus = b.bus ∧ (b.tryBurnoutEnd l).cmc = b.cmc := by
  unfold tryBurnoutEnd
  (repeat' split) <;> simp

@[simp] theorem lscTick_frame (l : LineId) :
    (b.lscTick l).ready = b.ready ∧ (b.lscTick l).cause = b.cause ∧ (b.lscTick l).feedStop = b.feedStop ∧
    (b.lscTick l).order = b.order ∧ (b.lscTick l).clock = b.clock ∧ (b.lscTick l).tdu = b.tdu ∧
    (b.lscTick l).bus = b.bus ∧ (b.lscTick l).cmc = b.cmc := by
  unfold lscTick
  (repeat' split) <;> simp

@[simp] theorem feedStopLine_frame (l : LineId) :
    (b.feedStopLine l).ready = b.ready ∧ (b.feedStopLine l).cause = b.cause ∧ (b.feedStopLine l).feedStop = b.feedStop ∧
    (b.feedStopLine l).order = b.order ∧ (b.feedStopLine l).clock = b.clock ∧ (b.feedStopLine l).tdu = b.tdu ∧
    (b.feedStopLine l).bus = b.bus ∧ (b.feedStopLine l).cmc = b.cmc := by
  unfold feedStopLine
  dsimp only
  (repeat' split) <;> simp

@[simp] theorem loadTarget_frame (l : LineId) (n : Nat) :
    (b.loadTarget l n).ready = b.ready ∧ (b.loadTarget l n).cause = b.cause ∧ (b.loadTarget l n).feedStop = b.feedStop ∧
    (b.loadTarget l n).order = b.order ∧ (b.loadTarget l n).clock = b.clock ∧ (b.loadTarget l n).blu = b.blu ∧
    (b.loadTarget l n).tdu = b.tdu ∧ (b.loadTarget l n).bus = b.bus ∧ (b.loadTarget l n).link = b.link ∧
    (b.loadTarget l n).notices = b.notices ∧ (b.loadTarget l n).rcs = b.rcs ∧ (b.loadTarget l n).cmc = b.cmc := by
  unfold loadTarget
  (repeat' split) <;> simp

@[simp] theorem eauMass_frame (l : LineId) (n : Nat) :
    (b.eauMass l n).ready = b.ready ∧ (b.eauMass l n).cause = b.cause ∧ (b.eauMass l n).feedStop = b.feedStop ∧
    (b.eauMass l n).order = b.order ∧ (b.eauMass l n).clock = b.clock ∧ (b.eauMass l n).blu = b.blu ∧
    (b.eauMass l n).tdu = b.tdu ∧ (b.eauMass l n).bus = b.bus ∧ (b.eauMass l n).link = b.link ∧
    (b.eauMass l n).notices = b.notices ∧ (b.eauMass l n).rcs = b.rcs ∧ (b.eauMass l n).cmc = b.cmc := by
  unfold eauMass
  (repeat' split) <;> simp

@[simp] theorem feederReport_frame (l : LineId) (p : RamPosition) (o : OkFault) :
    (b.feederReport l p o).ready = b.ready ∧ (b.feederReport l p o).cause = b.cause ∧ (b.feederReport l p o).feedStop = b.feedStop ∧
    (b.feederReport l p o).order = b.order ∧ (b.feederReport l p o).clock = b.clock ∧ (b.feederReport l p o).blu = b.blu ∧
    (b.feederReport l p o).tdu = b.tdu ∧ (b.feederReport l p o).bus = b.bus ∧ (b.feederReport l p o).link = b.link ∧
    (b.feederReport l p o).notices = b.notices ∧ (b.feederReport l p o).rcs = b.rcs ∧ (b.feederReport l p o).cmc = b.cmc := by
  unfold feederReport
  (repeat' split) <;> simp

@[simp] theorem steamSample_frame (l : LineId) (n : Nat) (o : OkFault) :
    (b.steamSample l n o).ready = b.ready ∧ (b.steamSample l n o).cause = b.cause ∧ (b.steamSample l n o).feedStop = b.feedStop ∧
    (b.steamSample l n o).order = b.order ∧ (b.steamSample l n o).clock = b.clock ∧ (b.steamSample l n o).blu = b.blu ∧
    (b.steamSample l n o).tdu = b.tdu ∧ (b.steamSample l n o).bus = b.bus ∧ (b.steamSample l n o).link = b.link ∧
    (b.steamSample l n o).notices = b.notices ∧ (b.steamSample l n o).rcs = b.rcs ∧ (b.steamSample l n o).cmc = b.cmc := by
  unfold steamSample
  (repeat' split) <;> simp

@[simp] theorem gfuClose_frame (l : LineId) (m : MinuteId) :
    (b.gfuClose l m).ready = b.ready ∧ (b.gfuClose l m).cause = b.cause ∧ (b.gfuClose l m).feedStop = b.feedStop ∧
    (b.gfuClose l m).order = b.order ∧ (b.gfuClose l m).clock = b.clock ∧ (b.gfuClose l m).blu = b.blu ∧
    (b.gfuClose l m).tdu = b.tdu ∧ (b.gfuClose l m).bus = b.bus ∧ (b.gfuClose l m).link = b.link ∧
    (b.gfuClose l m).notices = b.notices ∧ (b.gfuClose l m).rcs = b.rcs ∧ (b.gfuClose l m).cmc = b.cmc := by
  unfold gfuClose
  simp

@[simp] theorem tryStrokeTimeout_frame (l : LineId) :
    (b.tryStrokeTimeout l).ready = b.ready ∧ (b.tryStrokeTimeout l).cause = b.cause ∧ (b.tryStrokeTimeout l).feedStop = b.feedStop ∧
    (b.tryStrokeTimeout l).order = b.order ∧ (b.tryStrokeTimeout l).clock = b.clock ∧ (b.tryStrokeTimeout l).tdu = b.tdu ∧
    (b.tryStrokeTimeout l).bus = b.bus ∧ (b.tryStrokeTimeout l).cmc = b.cmc := by
  unfold tryStrokeTimeout
  dsimp only
  (repeat' split) <;> simp

@[simp] theorem strokeIsDue_frame (l : LineId) :
    (b.strokeIsDue l).ready = b.ready ∧ (b.strokeIsDue l).cause = b.cause ∧ (b.strokeIsDue l).feedStop = b.feedStop ∧
    (b.strokeIsDue l).order = b.order ∧ (b.strokeIsDue l).clock = b.clock ∧ (b.strokeIsDue l).blu = b.blu ∧
    (b.strokeIsDue l).tdu = b.tdu ∧ (b.strokeIsDue l).bus = b.bus ∧ (b.strokeIsDue l).rcs = b.rcs ∧
    (b.strokeIsDue l).cmc = b.cmc := by
  unfold strokeIsDue
  dsimp only
  (repeat' split) <;> simp

@[simp] theorem tryStrokeDue_frame (l : LineId) :
    (b.tryStrokeDue l).ready = b.ready ∧ (b.tryStrokeDue l).cause = b.cause ∧ (b.tryStrokeDue l).feedStop = b.feedStop ∧
    (b.tryStrokeDue l).order = b.order ∧ (b.tryStrokeDue l).clock = b.clock ∧ (b.tryStrokeDue l).blu = b.blu ∧
    (b.tryStrokeDue l).tdu = b.tdu ∧ (b.tryStrokeDue l).bus = b.bus ∧ (b.tryStrokeDue l).rcs = b.rcs ∧
    (b.tryStrokeDue l).cmc = b.cmc := by
  unfold tryStrokeDue
  (repeat' split) <;> simp

@[simp] theorem pacerCount_frame (l : LineId) :
    (b.pacerCount l).ready = b.ready ∧ (b.pacerCount l).cause = b.cause ∧ (b.pacerCount l).feedStop = b.feedStop ∧
    (b.pacerCount l).order = b.order ∧ (b.pacerCount l).clock = b.clock ∧ (b.pacerCount l).blu = b.blu ∧
    (b.pacerCount l).tdu = b.tdu ∧ (b.pacerCount l).bus = b.bus ∧ (b.pacerCount l).link = b.link ∧
    (b.pacerCount l).notices = b.notices ∧ (b.pacerCount l).rcs = b.rcs ∧ (b.pacerCount l).cmc = b.cmc := by
  unfold pacerCount
  (repeat' split) <;> simp

@[simp] theorem gfuTick_frame (l : LineId) :
    (b.gfuTick l).ready = b.ready ∧ (b.gfuTick l).cause = b.cause ∧ (b.gfuTick l).feedStop = b.feedStop ∧
    (b.gfuTick l).order = b.order ∧ (b.gfuTick l).clock = b.clock ∧ (b.gfuTick l).tdu = b.tdu ∧
    (b.gfuTick l).bus = b.bus ∧ (b.gfuTick l).cmc = b.cmc := by
  unfold gfuTick
  simp

@[simp] theorem select_frame (l : LineId) (x : Selection) :
    (b.select l x).ready = b.ready ∧ (b.select l x).cause = b.cause ∧ (b.select l x).feedStop = b.feedStop ∧
    (b.select l x).order = b.order ∧ (b.select l x).clock = b.clock ∧ (b.select l x).tdu = b.tdu ∧
    (b.select l x).bus = b.bus ∧ (b.select l x).cmc = b.cmc := by
  unfold select
  dsimp only
  (repeat' split) <;> simp

@[simp] theorem analyzerBound_frame (l : LineId) (x y : Bool) :
    (b.analyzerBound l x y).ready = b.ready ∧ (b.analyzerBound l x y).cause = b.cause ∧ (b.analyzerBound l x y).feedStop = b.feedStop ∧
    (b.analyzerBound l x y).order = b.order ∧ (b.analyzerBound l x y).clock = b.clock ∧ (b.analyzerBound l x y).tdu = b.tdu ∧
    (b.analyzerBound l x y).bus = b.bus ∧ (b.analyzerBound l x y).cmc = b.cmc := by
  unfold analyzerBound
  simp

@[simp] theorem analyzerUnbound_frame (l : LineId) (x : Bool) :
    (b.analyzerUnbound l x).ready = b.ready ∧ (b.analyzerUnbound l x).cause = b.cause ∧ (b.analyzerUnbound l x).feedStop = b.feedStop ∧
    (b.analyzerUnbound l x).order = b.order ∧ (b.analyzerUnbound l x).clock = b.clock ∧ (b.analyzerUnbound l x).tdu = b.tdu ∧
    (b.analyzerUnbound l x).bus = b.bus ∧ (b.analyzerUnbound l x).cmc = b.cmc := by
  unfold analyzerUnbound
  simp

@[simp] theorem analyzerLoss_frame (l : LineId) (x : Bool) :
    (b.analyzerLoss l x).ready = b.ready ∧ (b.analyzerLoss l x).cause = b.cause ∧ (b.analyzerLoss l x).feedStop = b.feedStop ∧
    (b.analyzerLoss l x).order = b.order ∧ (b.analyzerLoss l x).clock = b.clock ∧ (b.analyzerLoss l x).tdu = b.tdu ∧
    (b.analyzerLoss l x).bus = b.bus ∧ (b.analyzerLoss l x).cmc = b.cmc := by
  unfold analyzerLoss
  simp

@[simp] theorem analyzerReturn_frame (l : LineId) (x : Bool) :
    (b.analyzerReturn l x).ready = b.ready ∧ (b.analyzerReturn l x).cause = b.cause ∧ (b.analyzerReturn l x).feedStop = b.feedStop ∧
    (b.analyzerReturn l x).order = b.order ∧ (b.analyzerReturn l x).clock = b.clock ∧ (b.analyzerReturn l x).tdu = b.tdu ∧
    (b.analyzerReturn l x).bus = b.bus ∧ (b.analyzerReturn l x).cmc = b.cmc := by
  unfold analyzerReturn
  simp

@[simp] theorem analyzerReply_frame (l : LineId) (x : Bool) (r : AnalyzerReply) :
    (b.analyzerReply l x r).ready = b.ready ∧ (b.analyzerReply l x r).cause = b.cause ∧ (b.analyzerReply l x r).feedStop = b.feedStop ∧
    (b.analyzerReply l x r).order = b.order ∧ (b.analyzerReply l x r).clock = b.clock ∧ (b.analyzerReply l x r).tdu = b.tdu ∧
    (b.analyzerReply l x r).bus = b.bus ∧ (b.analyzerReply l x r).cmc = b.cmc := by
  unfold analyzerReply
  dsimp only
  (repeat' split) <;> simp

@[simp] theorem returnToA_frame (l : LineId) :
    (b.returnToA l).ready = b.ready ∧ (b.returnToA l).cause = b.cause ∧ (b.returnToA l).feedStop = b.feedStop ∧
    (b.returnToA l).order = b.order ∧ (b.returnToA l).clock = b.clock ∧ (b.returnToA l).tdu = b.tdu ∧
    (b.returnToA l).bus = b.bus ∧ (b.returnToA l).cmc = b.cmc := by
  unfold returnToA
  dsimp only
  (repeat' split) <;> simp

@[simp] theorem eauMinute_frame (l : LineId) (m : MinuteId) (x : Bool) :
    (b.eauMinute l m x).ready = b.ready ∧ (b.eauMinute l m x).cause = b.cause ∧ (b.eauMinute l m x).feedStop = b.feedStop ∧
    (b.eauMinute l m x).order = b.order ∧ (b.eauMinute l m x).clock = b.clock ∧ (b.eauMinute l m x).tdu = b.tdu ∧
    (b.eauMinute l m x).bus = b.bus ∧ (b.eauMinute l m x).cmc = b.cmc := by
  unfold eauMinute
  simp

@[simp] theorem exceed_frame (l : LineId) (x : Pollutant) (d : List Byte) :
    (b.exceed l x d).ready = b.ready ∧ (b.exceed l x d).cause = b.cause ∧ (b.exceed l x d).feedStop = b.feedStop ∧
    (b.exceed l x d).order = b.order ∧ (b.exceed l x d).clock = b.clock ∧ (b.exceed l x d).blu = b.blu ∧
    (b.exceed l x d).tdu = b.tdu ∧ (b.exceed l x d).bus = b.bus ∧ (b.exceed l x d).rcs = b.rcs ∧
    (b.exceed l x d).cmc = b.cmc := by
  unfold exceed
  simp

@[simp] theorem exceedHalfHour_frame (l : LineId) (n : Nat) (q : PerPollutant HalfHourQuantity) :
    (b.exceedHalfHour l n q).ready = b.ready ∧ (b.exceedHalfHour l n q).cause = b.cause ∧ (b.exceedHalfHour l n q).feedStop = b.feedStop ∧
    (b.exceedHalfHour l n q).order = b.order ∧ (b.exceedHalfHour l n q).clock = b.clock ∧ (b.exceedHalfHour l n q).blu = b.blu ∧
    (b.exceedHalfHour l n q).tdu = b.tdu ∧ (b.exceedHalfHour l n q).bus = b.bus ∧ (b.exceedHalfHour l n q).rcs = b.rcs ∧
    (b.exceedHalfHour l n q).cmc = b.cmc := by
  simp only [exceedHalfHour, allPollutants, List.foldl]
  (repeat' split) <;> simp

@[simp] theorem eauHalfHour_frame (l : LineId) (y d i : Nat) (x : Bool) :
    (b.eauHalfHour l y d i x).ready = b.ready ∧ (b.eauHalfHour l y d i x).cause = b.cause ∧ (b.eauHalfHour l y d i x).feedStop = b.feedStop ∧
    (b.eauHalfHour l y d i x).order = b.order ∧ (b.eauHalfHour l y d i x).clock = b.clock ∧ (b.eauHalfHour l y d i x).blu = b.blu ∧
    (b.eauHalfHour l y d i x).tdu = b.tdu ∧ (b.eauHalfHour l y d i x).bus = b.bus ∧ (b.eauHalfHour l y d i x).cmc = b.cmc := by
  unfold eauHalfHour
  dsimp only
  (repeat' split) <;> simp

@[simp] theorem dayNotices_frame (l : LineId) (q : PerPollutant DayQuantity) (x : Pollutant) :
    (b.dayNotices l q x).ready = b.ready ∧ (b.dayNotices l q x).cause = b.cause ∧ (b.dayNotices l q x).feedStop = b.feedStop ∧
    (b.dayNotices l q x).order = b.order ∧ (b.dayNotices l q x).clock = b.clock ∧ (b.dayNotices l q x).blu = b.blu ∧
    (b.dayNotices l q x).tdu = b.tdu ∧ (b.dayNotices l q x).bus = b.bus ∧ (b.dayNotices l q x).rcs = b.rcs ∧
    (b.dayNotices l q x).cmc = b.cmc := by
  unfold dayNotices
  dsimp only
  (repeat' split) <;> simp

@[simp] theorem eauDay_frame (l : LineId) (y d : Nat) (r x : Bool) :
    (b.eauDay l y d r x).ready = b.ready ∧ (b.eauDay l y d r x).cause = b.cause ∧ (b.eauDay l y d r x).feedStop = b.feedStop ∧
    (b.eauDay l y d r x).order = b.order ∧ (b.eauDay l y d r x).clock = b.clock ∧ (b.eauDay l y d r x).blu = b.blu ∧
    (b.eauDay l y d r x).tdu = b.tdu ∧ (b.eauDay l y d r x).bus = b.bus ∧ (b.eauDay l y d r x).cmc = b.cmc := by
  simp only [eauDay, allPollutants, List.foldl]
  (repeat' split) <;> simp

@[simp] theorem eauClose_frame (l : LineId) (c : Close) :
    (b.eauClose l c).ready = b.ready ∧ (b.eauClose l c).cause = b.cause ∧ (b.eauClose l c).feedStop = b.feedStop ∧
    (b.eauClose l c).order = b.order ∧ (b.eauClose l c).clock = b.clock ∧ (b.eauClose l c).tdu = b.tdu ∧
    (b.eauClose l c).bus = b.bus ∧ (b.eauClose l c).cmc = b.cmc := by
  unfold eauClose
  (repeat' split) <;> simp

@[simp] theorem limitNotices_frame (l : LineId) (f : LimitFound) (m u : Nat) :
    (b.limitNotices l f m u).ready = b.ready ∧ (b.limitNotices l f m u).cause = b.cause ∧ (b.limitNotices l f m u).feedStop = b.feedStop ∧
    (b.limitNotices l f m u).order = b.order ∧ (b.limitNotices l f m u).clock = b.clock ∧ (b.limitNotices l f m u).lines = b.lines ∧
    (b.limitNotices l f m u).blu = b.blu ∧ (b.limitNotices l f m u).tdu = b.tdu ∧ (b.limitNotices l f m u).bus = b.bus ∧
    (b.limitNotices l f m u).rcs = b.rcs ∧ (b.limitNotices l f m u).cmc = b.cmc := by
  unfold limitNotices
  (repeat' split) <;> simp

@[simp] theorem dauMinute_frame (l : LineId) :
    (b.dauMinute l).ready = b.ready ∧ (b.dauMinute l).cause = b.cause ∧ (b.dauMinute l).feedStop = b.feedStop ∧
    (b.dauMinute l).order = b.order ∧ (b.dauMinute l).clock = b.clock ∧ (b.dauMinute l).blu = b.blu ∧
    (b.dauMinute l).tdu = b.tdu ∧ (b.dauMinute l).bus = b.bus ∧ (b.dauMinute l).rcs = b.rcs ∧
    (b.dauMinute l).cmc = b.cmc := by
  unfold dauMinute
  split <;> simp

@[simp] theorem dauRollover_frame (l : LineId) (y : Nat) :
    (b.dauRollover l y).ready = b.ready ∧ (b.dauRollover l y).cause = b.cause ∧ (b.dauRollover l y).feedStop = b.feedStop ∧
    (b.dauRollover l y).order = b.order ∧ (b.dauRollover l y).clock = b.clock ∧ (b.dauRollover l y).blu = b.blu ∧
    (b.dauRollover l y).tdu = b.tdu ∧ (b.dauRollover l y).bus = b.bus ∧ (b.dauRollover l y).link = b.link ∧
    (b.dauRollover l y).notices = b.notices ∧ (b.dauRollover l y).rcs = b.rcs ∧ (b.dauRollover l y).cmc = b.cmc := by
  unfold dauRollover
  simp

@[simp] theorem dauClose_frame (l : LineId) (c : Close) :
    (b.dauClose l c).ready = b.ready ∧ (b.dauClose l c).cause = b.cause ∧ (b.dauClose l c).feedStop = b.feedStop ∧
    (b.dauClose l c).order = b.order ∧ (b.dauClose l c).clock = b.clock ∧ (b.dauClose l c).tdu = b.tdu ∧
    (b.dauClose l c).bus = b.bus ∧ (b.dauClose l c).cmc = b.cmc := by
  unfold dauClose
  (repeat' split) <;> simp

@[simp] theorem turbineBound_frame (t : TurbineId) (x : Bool) :
    (b.turbineBound t x).ready = b.ready ∧ (b.turbineBound t x).cause = b.cause ∧ (b.turbineBound t x).feedStop = b.feedStop ∧
    (b.turbineBound t x).order = b.order ∧ (b.turbineBound t x).clock = b.clock ∧ (b.turbineBound t x).lines = b.lines ∧
    (b.turbineBound t x).blu = b.blu ∧ (b.turbineBound t x).bus = b.bus ∧ (b.turbineBound t x).link = b.link ∧
    (b.turbineBound t x).notices = b.notices ∧ (b.turbineBound t x).rcs = b.rcs ∧ (b.turbineBound t x).cmc = b.cmc := by
  unfold turbineBound
  simp

@[simp] theorem turbineUnbound_frame (t : TurbineId) :
    (b.turbineUnbound t).ready = b.ready ∧ (b.turbineUnbound t).cause = b.cause ∧ (b.turbineUnbound t).feedStop = b.feedStop ∧
    (b.turbineUnbound t).order = b.order ∧ (b.turbineUnbound t).clock = b.clock ∧ (b.turbineUnbound t).lines = b.lines ∧
    (b.turbineUnbound t).blu = b.blu ∧ (b.turbineUnbound t).bus = b.bus ∧ (b.turbineUnbound t).link = b.link ∧
    (b.turbineUnbound t).notices = b.notices ∧ (b.turbineUnbound t).rcs = b.rcs ∧ (b.turbineUnbound t).cmc = b.cmc := by
  unfold turbineUnbound
  simp

@[simp] theorem turbineLoss_frame (t : TurbineId) :
    (b.turbineLoss t).ready = b.ready ∧ (b.turbineLoss t).cause = b.cause ∧ (b.turbineLoss t).feedStop = b.feedStop ∧
    (b.turbineLoss t).order = b.order ∧ (b.turbineLoss t).clock = b.clock ∧ (b.turbineLoss t).lines = b.lines ∧
    (b.turbineLoss t).blu = b.blu ∧ (b.turbineLoss t).bus = b.bus ∧ (b.turbineLoss t).link = b.link ∧
    (b.turbineLoss t).notices = b.notices ∧ (b.turbineLoss t).rcs = b.rcs ∧ (b.turbineLoss t).cmc = b.cmc := by
  unfold turbineLoss
  simp

@[simp] theorem turbineReply_frame (t : TurbineId) (v : Nat) (k : Breaker) (o : OkFault) (r : Bool) :
    (b.turbineReply t v k o r).ready = b.ready ∧ (b.turbineReply t v k o r).cause = b.cause ∧ (b.turbineReply t v k o r).feedStop = b.feedStop ∧
    (b.turbineReply t v k o r).order = b.order ∧ (b.turbineReply t v k o r).clock = b.clock ∧ (b.turbineReply t v k o r).lines = b.lines ∧
    (b.turbineReply t v k o r).blu = b.blu ∧ (b.turbineReply t v k o r).bus = b.bus ∧ (b.turbineReply t v k o r).link = b.link ∧
    (b.turbineReply t v k o r).notices = b.notices ∧ (b.turbineReply t v k o r).rcs = b.rcs ∧ (b.turbineReply t v k o r).cmc = b.cmc := by
  unfold turbineReply
  simp

@[simp] theorem tryOnline_frame (t : TurbineId) :
    (b.tryOnline t).ready = b.ready ∧ (b.tryOnline t).cause = b.cause ∧ (b.tryOnline t).feedStop = b.feedStop ∧
    (b.tryOnline t).order = b.order ∧ (b.tryOnline t).clock = b.clock ∧ (b.tryOnline t).lines = b.lines ∧
    (b.tryOnline t).blu = b.blu ∧ (b.tryOnline t).bus = b.bus ∧ (b.tryOnline t).link = b.link ∧
    (b.tryOnline t).notices = b.notices ∧ (b.tryOnline t).rcs = b.rcs ∧ (b.tryOnline t).cmc = b.cmc := by
  unfold tryOnline
  dsimp only
  (repeat' split) <;> simp

@[simp] theorem tryRunupTimeout_frame (t : TurbineId) :
    (b.tryRunupTimeout t).ready = b.ready ∧ (b.tryRunupTimeout t).cause = b.cause ∧ (b.tryRunupTimeout t).feedStop = b.feedStop ∧
    (b.tryRunupTimeout t).order = b.order ∧ (b.tryRunupTimeout t).clock = b.clock ∧ (b.tryRunupTimeout t).lines = b.lines ∧
    (b.tryRunupTimeout t).blu = b.blu ∧ (b.tryRunupTimeout t).bus = b.bus ∧ (b.tryRunupTimeout t).rcs = b.rcs ∧
    (b.tryRunupTimeout t).cmc = b.cmc := by
  unfold tryRunupTimeout
  dsimp only
  (repeat' split) <;> simp

@[simp] theorem turbineTick_frame (t : TurbineId) :
    (b.turbineTick t).ready = b.ready ∧ (b.turbineTick t).cause = b.cause ∧ (b.turbineTick t).feedStop = b.feedStop ∧
    (b.turbineTick t).order = b.order ∧ (b.turbineTick t).clock = b.clock ∧ (b.turbineTick t).lines = b.lines ∧
    (b.turbineTick t).blu = b.blu ∧ (b.turbineTick t).bus = b.bus ∧ (b.turbineTick t).rcs = b.rcs ∧
    (b.turbineTick t).cmc = b.cmc := by
  unfold turbineTick
  dsimp only
  (repeat' split) <;> simp

@[simp] theorem fastTransfer_frame (n : Nat) :
    (b.fastTransfer n).ready = b.ready ∧ (b.fastTransfer n).cause = b.cause ∧ (b.fastTransfer n).feedStop = b.feedStop ∧
    (b.fastTransfer n).order = b.order ∧ (b.fastTransfer n).clock = b.clock ∧ (b.fastTransfer n).lines = b.lines ∧
    (b.fastTransfer n).tdu = b.tdu ∧ (b.fastTransfer n).bus = b.bus ∧ (b.fastTransfer n).link = b.link ∧
    (b.fastTransfer n).notices = b.notices ∧ (b.fastTransfer n).rcs = b.rcs ∧ (b.fastTransfer n).cmc = b.cmc := by
  unfold fastTransfer
  simp

@[simp] theorem trip_frame (t : TurbineId) (c : TripCause) :
    (b.trip t c).ready = b.ready ∧ (b.trip t c).cause = b.cause ∧ (b.trip t c).feedStop = b.feedStop ∧
    (b.trip t c).order = b.order ∧ (b.trip t c).clock = b.clock ∧ (b.trip t c).lines = b.lines ∧
    (b.trip t c).bus = b.bus ∧ (b.trip t c).rcs = b.rcs ∧ (b.trip t c).cmc = b.cmc := by
  unfold trip
  dsimp only
  (repeat' split) <;> simp

@[simp] theorem tripAsserted_frame (t : TurbineId) :
    (b.tripAsserted t).ready = b.ready ∧ (b.tripAsserted t).cause = b.cause ∧ (b.tripAsserted t).feedStop = b.feedStop ∧
    (b.tripAsserted t).order = b.order ∧ (b.tripAsserted t).clock = b.clock ∧ (b.tripAsserted t).lines = b.lines ∧
    (b.tripAsserted t).bus = b.bus ∧ (b.tripAsserted t).rcs = b.rcs ∧ (b.tripAsserted t).cmc = b.cmc := by
  unfold tripAsserted
  simp

@[simp] theorem risingEdge_frame (t : TurbineId) (n : Nat) :
    (b.risingEdge t n).ready = b.ready ∧ (b.risingEdge t n).cause = b.cause ∧ (b.risingEdge t n).feedStop = b.feedStop ∧
    (b.risingEdge t n).order = b.order ∧ (b.risingEdge t n).clock = b.clock ∧ (b.risingEdge t n).lines = b.lines ∧
    (b.risingEdge t n).bus = b.bus ∧ (b.risingEdge t n).rcs = b.rcs ∧ (b.risingEdge t n).cmc = b.cmc := by
  unfold risingEdge
  dsimp only
  (repeat' split) <;> simp

@[simp] theorem speedOverflow_frame (t : TurbineId) :
    (b.speedOverflow t).ready = b.ready ∧ (b.speedOverflow t).cause = b.cause ∧ (b.speedOverflow t).feedStop = b.feedStop ∧
    (b.speedOverflow t).order = b.order ∧ (b.speedOverflow t).clock = b.clock ∧ (b.speedOverflow t).lines = b.lines ∧
    (b.speedOverflow t).blu = b.blu ∧ (b.speedOverflow t).bus = b.bus ∧ (b.speedOverflow t).link = b.link ∧
    (b.speedOverflow t).notices = b.notices ∧ (b.speedOverflow t).rcs = b.rcs ∧ (b.speedOverflow t).cmc = b.cmc := by
  unfold speedOverflow
  simp

@[simp] theorem applyQueue_frame :
    b.applyQueue.ready = b.ready ∧ b.applyQueue.cause = b.cause ∧ b.applyQueue.feedStop = b.feedStop ∧
    b.applyQueue.order = b.order ∧ b.applyQueue.clock = b.clock ∧ b.applyQueue.lines = b.lines ∧
    b.applyQueue.blu = b.blu ∧ b.applyQueue.bus = b.bus ∧ b.applyQueue.link = b.link ∧
    b.applyQueue.notices = b.notices ∧ b.applyQueue.rcs = b.rcs ∧ b.applyQueue.cmc = b.cmc := by
  unfold applyQueue
  (repeat' split) <;> simp

@[simp] theorem convert_frame :
    b.convert.ready = b.ready ∧ b.convert.cause = b.cause ∧ b.convert.feedStop = b.feedStop ∧
    b.convert.order = b.order ∧ b.convert.clock = b.clock ∧ b.convert.lines = b.lines ∧
    b.convert.blu = b.blu ∧ b.convert.bus = b.bus ∧ b.convert.link = b.link ∧
    b.convert.notices = b.notices ∧ b.convert.rcs = b.rcs ∧ b.convert.cmc = b.cmc := by
  unfold convert
  simp

@[simp] theorem moveSetpoints_frame (x y : Nat) :
    (b.moveSetpoints x y).ready = b.ready ∧ (b.moveSetpoints x y).cause = b.cause ∧ (b.moveSetpoints x y).feedStop = b.feedStop ∧
    (b.moveSetpoints x y).order = b.order ∧ (b.moveSetpoints x y).clock = b.clock ∧ (b.moveSetpoints x y).lines = b.lines ∧
    (b.moveSetpoints x y).blu = b.blu ∧ (b.moveSetpoints x y).bus = b.bus ∧ (b.moveSetpoints x y).link = b.link ∧
    (b.moveSetpoints x y).notices = b.notices ∧ (b.moveSetpoints x y).rcs = b.rcs ∧ (b.moveSetpoints x y).cmc = b.cmc := by
  unfold moveSetpoints
  simp

@[simp] theorem bluSteam_frame (l : LineId) (n : Nat) (o : OkFault) (r : Bool) :
    (b.bluSteam l n o r).ready = b.ready ∧ (b.bluSteam l n o r).cause = b.cause ∧ (b.bluSteam l n o r).feedStop = b.feedStop ∧
    (b.bluSteam l n o r).order = b.order ∧ (b.bluSteam l n o r).clock = b.clock ∧ (b.bluSteam l n o r).lines = b.lines ∧
    (b.bluSteam l n o r).tdu = b.tdu ∧ (b.bluSteam l n o r).bus = b.bus ∧ (b.bluSteam l n o r).link = b.link ∧
    (b.bluSteam l n o r).notices = b.notices ∧ (b.bluSteam l n o r).rcs = b.rcs ∧ (b.bluSteam l n o r).cmc = b.cmc := by
  unfold bluSteam
  (repeat' split) <;> simp

@[simp] theorem bluStale_frame (l : LineId) :
    (b.bluStale l).ready = b.ready ∧ (b.bluStale l).cause = b.cause ∧ (b.bluStale l).feedStop = b.feedStop ∧
    (b.bluStale l).order = b.order ∧ (b.bluStale l).clock = b.clock ∧ (b.bluStale l).lines = b.lines ∧
    (b.bluStale l).tdu = b.tdu ∧ (b.bluStale l).bus = b.bus ∧ (b.bluStale l).link = b.link ∧
    (b.bluStale l).notices = b.notices ∧ (b.bluStale l).rcs = b.rcs ∧ (b.bluStale l).cmc = b.cmc := by
  unfold bluStale
  simp

@[simp] theorem bluUnbound_frame (l : LineId) :
    (b.bluUnbound l).ready = b.ready ∧ (b.bluUnbound l).cause = b.cause ∧ (b.bluUnbound l).feedStop = b.feedStop ∧
    (b.bluUnbound l).order = b.order ∧ (b.bluUnbound l).clock = b.clock ∧ (b.bluUnbound l).lines = b.lines ∧
    (b.bluUnbound l).tdu = b.tdu ∧ (b.bluUnbound l).bus = b.bus ∧ (b.bluUnbound l).link = b.link ∧
    (b.bluUnbound l).notices = b.notices ∧ (b.bluUnbound l).rcs = b.rcs ∧ (b.bluUnbound l).cmc = b.cmc := by
  unfold bluUnbound
  simp

@[simp] theorem headerReply_frame (n : Nat) (o : OkFault) :
    (b.headerReply n o).ready = b.ready ∧ (b.headerReply n o).cause = b.cause ∧ (b.headerReply n o).feedStop = b.feedStop ∧
    (b.headerReply n o).order = b.order ∧ (b.headerReply n o).clock = b.clock ∧ (b.headerReply n o).lines = b.lines ∧
    (b.headerReply n o).tdu = b.tdu ∧ (b.headerReply n o).bus = b.bus ∧ (b.headerReply n o).link = b.link ∧
    (b.headerReply n o).notices = b.notices ∧ (b.headerReply n o).rcs = b.rcs ∧ (b.headerReply n o).cmc = b.cmc := by
  unfold headerReply
  (repeat' split) <;> simp

@[simp] theorem headerGone_frame :
    b.headerGone.ready = b.ready ∧ b.headerGone.cause = b.cause ∧ b.headerGone.feedStop = b.feedStop ∧
    b.headerGone.order = b.order ∧ b.headerGone.clock = b.clock ∧ b.headerGone.lines = b.lines ∧
    b.headerGone.tdu = b.tdu ∧ b.headerGone.bus = b.bus ∧ b.headerGone.link = b.link ∧
    b.headerGone.notices = b.notices ∧ b.headerGone.rcs = b.rcs ∧ b.headerGone.cmc = b.cmc := by
  unfold headerGone
  simp

@[simp] theorem bypassReply_frame (n : Nat) (o : OkFault) :
    (b.bypassReply n o).ready = b.ready ∧ (b.bypassReply n o).cause = b.cause ∧ (b.bypassReply n o).feedStop = b.feedStop ∧
    (b.bypassReply n o).order = b.order ∧ (b.bypassReply n o).clock = b.clock ∧ (b.bypassReply n o).lines = b.lines ∧
    (b.bypassReply n o).tdu = b.tdu ∧ (b.bypassReply n o).bus = b.bus ∧ (b.bypassReply n o).link = b.link ∧
    (b.bypassReply n o).notices = b.notices ∧ (b.bypassReply n o).rcs = b.rcs ∧ (b.bypassReply n o).cmc = b.cmc := by
  unfold bypassReply
  (repeat' split) <;> simp

@[simp] theorem bypassGone_frame :
    b.bypassGone.ready = b.ready ∧ b.bypassGone.cause = b.cause ∧ b.bypassGone.feedStop = b.feedStop ∧
    b.bypassGone.order = b.order ∧ b.bypassGone.clock = b.clock ∧ b.bypassGone.lines = b.lines ∧
    b.bypassGone.tdu = b.tdu ∧ b.bypassGone.bus = b.bus ∧ b.bypassGone.link = b.link ∧
    b.bypassGone.notices = b.notices ∧ b.bypassGone.rcs = b.rcs ∧ b.bypassGone.cmc = b.cmc := by
  unfold bypassGone
  simp

@[simp] theorem bypassMaxWritten_frame :
    b.bypassMaxWritten.ready = b.ready ∧ b.bypassMaxWritten.cause = b.cause ∧ b.bypassMaxWritten.feedStop = b.feedStop ∧
    b.bypassMaxWritten.order = b.order ∧ b.bypassMaxWritten.clock = b.clock ∧ b.bypassMaxWritten.lines = b.lines ∧
    b.bypassMaxWritten.tdu = b.tdu ∧ b.bypassMaxWritten.bus = b.bus ∧ b.bypassMaxWritten.link = b.link ∧
    b.bypassMaxWritten.notices = b.notices ∧ b.bypassMaxWritten.rcs = b.rcs ∧ b.bypassMaxWritten.cmc = b.cmc := by
  unfold bypassMaxWritten
  simp

@[simp] theorem deliverTarget_frame (l : LineId) :
    (b.deliverTarget l).ready = b.ready ∧ (b.deliverTarget l).cause = b.cause ∧ (b.deliverTarget l).feedStop = b.feedStop ∧
    (b.deliverTarget l).order = b.order ∧ (b.deliverTarget l).clock = b.clock ∧ (b.deliverTarget l).blu = b.blu ∧
    (b.deliverTarget l).tdu = b.tdu ∧ (b.deliverTarget l).bus = b.bus ∧ (b.deliverTarget l).link = b.link ∧
    (b.deliverTarget l).notices = b.notices ∧ (b.deliverTarget l).rcs = b.rcs ∧ (b.deliverTarget l).cmc = b.cmc := by
  unfold deliverTarget
  (repeat' split) <;> simp

@[simp] theorem cycleNotices_frame (x y : Bool) :
    (b.cycleNotices x y).ready = b.ready ∧ (b.cycleNotices x y).cause = b.cause ∧ (b.cycleNotices x y).feedStop = b.feedStop ∧
    (b.cycleNotices x y).order = b.order ∧ (b.cycleNotices x y).clock = b.clock ∧ (b.cycleNotices x y).lines = b.lines ∧
    (b.cycleNotices x y).blu = b.blu ∧ (b.cycleNotices x y).tdu = b.tdu ∧ (b.cycleNotices x y).bus = b.bus ∧
    (b.cycleNotices x y).rcs = b.rcs ∧ (b.cycleNotices x y).cmc = b.cmc := by
  unfold cycleNotices
  (repeat' split) <;> simp

@[simp] theorem balanceCycle_frame :
    b.balanceCycle.ready = b.ready ∧ b.balanceCycle.cause = b.cause ∧ b.balanceCycle.feedStop = b.feedStop ∧
    b.balanceCycle.order = b.order ∧ b.balanceCycle.clock = b.clock ∧ b.balanceCycle.bus = b.bus ∧
    b.balanceCycle.rcs = b.rcs ∧ b.balanceCycle.cmc = b.cmc := by
  simp [balanceCycle, allLines, List.foldl]

@[simp] theorem deliverReply_frame (r : Role) (p : List Byte) (x : Bool) :
    (b.deliverReply r p x).ready = b.ready ∧ (b.deliverReply r p x).cause = b.cause ∧ (b.deliverReply r p x).feedStop = b.feedStop ∧
    (b.deliverReply r p x).order = b.order ∧ (b.deliverReply r p x).clock = b.clock ∧ (b.deliverReply r p x).bus = b.bus ∧
    (b.deliverReply r p x).cmc = b.cmc := by
  unfold deliverReply
  (repeat' split) <;> simp

@[simp] theorem deliverLoss_frame (r : Role) :
    (b.deliverLoss r).ready = b.ready ∧ (b.deliverLoss r).cause = b.cause ∧ (b.deliverLoss r).feedStop = b.feedStop ∧
    (b.deliverLoss r).order = b.order ∧ (b.deliverLoss r).clock = b.clock ∧ (b.deliverLoss r).bus = b.bus ∧
    (b.deliverLoss r).cmc = b.cmc := by
  unfold deliverLoss
  (repeat' split) <;> simp

@[simp] theorem deliverBinding_frame (r : Role) (x : Bool) :
    (b.deliverBinding r x).ready = b.ready ∧ (b.deliverBinding r x).cause = b.cause ∧ (b.deliverBinding r x).feedStop = b.feedStop ∧
    (b.deliverBinding r x).order = b.order ∧ (b.deliverBinding r x).clock = b.clock ∧ (b.deliverBinding r x).bus = b.bus ∧
    (b.deliverBinding r x).cmc = b.cmc := by
  unfold deliverBinding
  (repeat' split) <;> simp

@[simp] theorem deliverUnbinding_frame (r : Role) :
    (b.deliverUnbinding r).ready = b.ready ∧ (b.deliverUnbinding r).cause = b.cause ∧ (b.deliverUnbinding r).feedStop = b.feedStop ∧
    (b.deliverUnbinding r).order = b.order ∧ (b.deliverUnbinding r).clock = b.clock ∧ (b.deliverUnbinding r).bus = b.bus ∧
    (b.deliverUnbinding r).cmc = b.cmc := by
  unfold deliverUnbinding
  (repeat' split) <;> simp

@[simp] theorem modStation_frame (n : Nat) (f : Station → Station) :
    (b.modStation n f).ready = b.ready ∧ (b.modStation n f).cause = b.cause ∧ (b.modStation n f).feedStop = b.feedStop ∧
    (b.modStation n f).order = b.order ∧ (b.modStation n f).clock = b.clock ∧ (b.modStation n f).lines = b.lines ∧
    (b.modStation n f).blu = b.blu ∧ (b.modStation n f).tdu = b.tdu ∧ (b.modStation n f).link = b.link ∧
    (b.modStation n f).notices = b.notices ∧ (b.modStation n f).rcs = b.rcs ∧ (b.modStation n f).cmc = b.cmc := by
  unfold modStation
  simp

@[simp] theorem bindRole_frame (e : Station) (r : Role) :
    (b.bindRole e r).ready = b.ready ∧ (b.bindRole e r).cause = b.cause ∧ (b.bindRole e r).feedStop = b.feedStop ∧
    (b.bindRole e r).order = b.order ∧ (b.bindRole e r).clock = b.clock ∧ (b.bindRole e r).cmc = b.cmc := by
  unfold bindRole
  simp

@[simp] theorem unbindRole_frame (e : Station) (r : Role) :
    (b.unbindRole e r).ready = b.ready ∧ (b.unbindRole e r).cause = b.cause ∧ (b.unbindRole e r).feedStop = b.feedStop ∧
    (b.unbindRole e r).order = b.order ∧ (b.unbindRole e r).clock = b.clock ∧ (b.unbindRole e r).cmc = b.cmc := by
  unfold unbindRole
  simp

@[simp] theorem enqueue_frame (u : Unanswered) :
    (b.enqueue u).ready = b.ready ∧ (b.enqueue u).cause = b.cause ∧ (b.enqueue u).feedStop = b.feedStop ∧
    (b.enqueue u).order = b.order ∧ (b.enqueue u).clock = b.clock ∧ (b.enqueue u).lines = b.lines ∧
    (b.enqueue u).blu = b.blu ∧ (b.enqueue u).tdu = b.tdu ∧ (b.enqueue u).link = b.link ∧
    (b.enqueue u).notices = b.notices ∧ (b.enqueue u).rcs = b.rcs ∧ (b.enqueue u).cmc = b.cmc := by
  unfold enqueue
  simp

@[simp] theorem pollFailed_frame (e : Station) (o : PollOutcome) :
    (b.pollFailed e o).ready = b.ready ∧ (b.pollFailed e o).cause = b.cause ∧ (b.pollFailed e o).feedStop = b.feedStop ∧
    (b.pollFailed e o).order = b.order ∧ (b.pollFailed e o).clock = b.clock ∧ (b.pollFailed e o).cmc = b.cmc := by
  unfold pollFailed
  (repeat' split) <;> simp

@[simp] theorem pollGood_frame (e : Station) (p : List Byte) :
    (b.pollGood e p).ready = b.ready ∧ (b.pollGood e p).cause = b.cause ∧ (b.pollGood e p).feedStop = b.feedStop ∧
    (b.pollGood e p).order = b.order ∧ (b.pollGood e p).clock = b.clock ∧ (b.pollGood e p).cmc = b.cmc := by
  unfold pollGood
  (repeat' split) <;> simp

@[simp] theorem pollOutcome_frame (n : Nat) (o : PollOutcome) (p : List Byte) :
    (b.pollOutcome n o p).ready = b.ready ∧ (b.pollOutcome n o p).cause = b.cause ∧ (b.pollOutcome n o p).feedStop = b.feedStop ∧
    (b.pollOutcome n o p).order = b.order ∧ (b.pollOutcome n o p).clock = b.clock ∧ (b.pollOutcome n o p).cmc = b.cmc := by
  unfold pollOutcome
  (repeat' split) <;> simp

@[simp] theorem endWalk_frame (r : WalkEnd) :
    (b.endWalk r).ready = b.ready ∧ (b.endWalk r).cause = b.cause ∧ (b.endWalk r).feedStop = b.feedStop ∧
    (b.endWalk r).order = b.order ∧ (b.endWalk r).clock = b.clock ∧ (b.endWalk r).lines = b.lines ∧
    (b.endWalk r).blu = b.blu ∧ (b.endWalk r).tdu = b.tdu ∧ (b.endWalk r).rcs = b.rcs ∧
    (b.endWalk r).cmc = b.cmc := by
  unfold endWalk
  simp

@[simp] theorem takeNext_frame :
    b.takeNext.ready = b.ready ∧ b.takeNext.cause = b.cause ∧ b.takeNext.feedStop = b.feedStop ∧
    b.takeNext.order = b.order ∧ b.takeNext.clock = b.clock ∧ b.takeNext.lines = b.lines ∧
    b.takeNext.blu = b.blu ∧ b.takeNext.tdu = b.tdu ∧ b.takeNext.rcs = b.rcs ∧
    b.takeNext.cmc = b.cmc := by
  unfold takeNext
  (repeat' split) <;> simp

@[simp] theorem takeCandidate_frame (i : StationId) (p : List Bool) :
    (b.takeCandidate i p).ready = b.ready ∧ (b.takeCandidate i p).cause = b.cause ∧ (b.takeCandidate i p).feedStop = b.feedStop ∧
    (b.takeCandidate i p).order = b.order ∧ (b.takeCandidate i p).clock = b.clock ∧ (b.takeCandidate i p).lines = b.lines ∧
    (b.takeCandidate i p).blu = b.blu ∧ (b.takeCandidate i p).tdu = b.tdu ∧ (b.takeCandidate i p).rcs = b.rcs ∧
    (b.takeCandidate i p).cmc = b.cmc := by
  unfold takeCandidate
  (repeat' split) <;> simp

@[simp] theorem split_frame (p : List Bool) :
    (b.split p).ready = b.ready ∧ (b.split p).cause = b.cause ∧ (b.split p).feedStop = b.feedStop ∧
    (b.split p).order = b.order ∧ (b.split p).clock = b.clock ∧ (b.split p).lines = b.lines ∧
    (b.split p).blu = b.blu ∧ (b.split p).tdu = b.tdu ∧ (b.split p).rcs = b.rcs ∧
    (b.split p).cmc = b.cmc := by
  unfold split
  (repeat' split) <;> simp

@[simp] theorem rollOutcome_frame (p : List Bool) (o : RollOutcome) :
    (b.rollOutcome p o).ready = b.ready ∧ (b.rollOutcome p o).cause = b.cause ∧ (b.rollOutcome p o).feedStop = b.feedStop ∧
    (b.rollOutcome p o).order = b.order ∧ (b.rollOutcome p o).clock = b.clock ∧ (b.rollOutcome p o).lines = b.lines ∧
    (b.rollOutcome p o).blu = b.blu ∧ (b.rollOutcome p o).tdu = b.tdu ∧ (b.rollOutcome p o).rcs = b.rcs ∧
    (b.rollOutcome p o).cmc = b.cmc := by
  unfold rollOutcome
  (repeat' split) <;> simp

@[simp] theorem addStation_frame (e : Station) :
    (b.addStation e).ready = b.ready ∧ (b.addStation e).cause = b.cause ∧ (b.addStation e).feedStop = b.feedStop ∧
    (b.addStation e).order = b.order ∧ (b.addStation e).clock = b.clock ∧ (b.addStation e).lines = b.lines ∧
    (b.addStation e).blu = b.blu ∧ (b.addStation e).tdu = b.tdu ∧ (b.addStation e).link = b.link ∧
    (b.addStation e).notices = b.notices ∧ (b.addStation e).rcs = b.rcs ∧ (b.addStation e).cmc = b.cmc := by
  unfold addStation
  simp

@[simp] theorem applyStored_frame (e : Station) :
    (b.applyStored e).ready = b.ready ∧ (b.applyStored e).cause = b.cause ∧ (b.applyStored e).feedStop = b.feedStop ∧
    (b.applyStored e).order = b.order ∧ (b.applyStored e).clock = b.clock ∧ (b.applyStored e).cmc = b.cmc := by
  unfold applyStored
  (repeat' split) <;> simp

@[simp] theorem assignGood_frame (c : Candidate) :
    (b.assignGood c).ready = b.ready ∧ (b.assignGood c).cause = b.cause ∧ (b.assignGood c).feedStop = b.feedStop ∧
    (b.assignGood c).order = b.order ∧ (b.assignGood c).clock = b.clock ∧ (b.assignGood c).cmc = b.cmc := by
  unfold assignGood
  (repeat' split) <;> simp

@[simp] theorem placeForget_frame (n : Nat) :
    (b.placeForget n).ready = b.ready ∧ (b.placeForget n).cause = b.cause ∧ (b.placeForget n).feedStop = b.feedStop ∧
    (b.placeForget n).order = b.order ∧ (b.placeForget n).clock = b.clock ∧ (b.placeForget n).lines = b.lines ∧
    (b.placeForget n).blu = b.blu ∧ (b.placeForget n).tdu = b.tdu ∧ (b.placeForget n).rcs = b.rcs ∧
    (b.placeForget n).cmc = b.cmc := by
  unfold placeForget
  simp

@[simp] theorem assignFailed_frame (c : Candidate) :
    (b.assignFailed c).ready = b.ready ∧ (b.assignFailed c).cause = b.cause ∧ (b.assignFailed c).feedStop = b.feedStop ∧
    (b.assignFailed c).order = b.order ∧ (b.assignFailed c).clock = b.clock ∧ (b.assignFailed c).lines = b.lines ∧
    (b.assignFailed c).blu = b.blu ∧ (b.assignFailed c).tdu = b.tdu ∧ (b.assignFailed c).rcs = b.rcs ∧
    (b.assignFailed c).cmc = b.cmc := by
  unfold assignFailed
  dsimp only
  (repeat' split) <;> simp

@[simp] theorem assignOutcome_frame (o : PollOutcome) :
    (b.assignOutcome o).ready = b.ready ∧ (b.assignOutcome o).cause = b.cause ∧ (b.assignOutcome o).feedStop = b.feedStop ∧
    (b.assignOutcome o).order = b.order ∧ (b.assignOutcome o).clock = b.clock ∧ (b.assignOutcome o).cmc = b.cmc := by
  unfold assignOutcome
  (repeat' split) <;> simp

@[simp] theorem queueFreed_frame :
    b.queueFreed.ready = b.ready ∧ b.queueFreed.cause = b.cause ∧ b.queueFreed.feedStop = b.feedStop ∧
    b.queueFreed.order = b.order ∧ b.queueFreed.clock = b.clock ∧ b.queueFreed.lines = b.lines ∧
    b.queueFreed.blu = b.blu ∧ b.queueFreed.tdu = b.tdu ∧ b.queueFreed.rcs = b.rcs ∧
    b.queueFreed.cmc = b.cmc := by
  unfold queueFreed
  (repeat' split) <;> simp

@[simp] theorem send_frame (t : Transaction) (p : List Byte) :
    (b.send t p).ready = b.ready ∧ (b.send t p).cause = b.cause ∧ (b.send t p).feedStop = b.feedStop ∧
    (b.send t p).order = b.order ∧ (b.send t p).clock = b.clock ∧ (b.send t p).lines = b.lines ∧
    (b.send t p).blu = b.blu ∧ (b.send t p).tdu = b.tdu ∧ (b.send t p).link = b.link ∧
    (b.send t p).notices = b.notices ∧ (b.send t p).rcs = b.rcs ∧ (b.send t p).cmc = b.cmc := by
  unfold send
  simp

@[simp] theorem grantQueued_frame (u : Unanswered) (us : List Unanswered) :
    (b.grantQueued u us).ready = b.ready ∧ (b.grantQueued u us).cause = b.cause ∧ (b.grantQueued u us).feedStop = b.feedStop ∧
    (b.grantQueued u us).order = b.order ∧ (b.grantQueued u us).clock = b.clock ∧ (b.grantQueued u us).lines = b.lines ∧
    (b.grantQueued u us).blu = b.blu ∧ (b.grantQueued u us).tdu = b.tdu ∧ (b.grantQueued u us).link = b.link ∧
    (b.grantQueued u us).notices = b.notices ∧ (b.grantQueued u us).rcs = b.rcs ∧ (b.grantQueued u us).cmc = b.cmc := by
  unfold grantQueued
  simp

@[simp] theorem grantPoll_frame (e : Station) :
    (b.grantPoll e).ready = b.ready ∧ (b.grantPoll e).cause = b.cause ∧ (b.grantPoll e).feedStop = b.feedStop ∧
    (b.grantPoll e).order = b.order ∧ (b.grantPoll e).clock = b.clock ∧ (b.grantPoll e).lines = b.lines ∧
    (b.grantPoll e).blu = b.blu ∧ (b.grantPoll e).tdu = b.tdu ∧ (b.grantPoll e).link = b.link ∧
    (b.grantPoll e).notices = b.notices ∧ (b.grantPoll e).rcs = b.rcs ∧ (b.grantPoll e).cmc = b.cmc := by
  unfold grantPoll
  simp

@[simp] theorem grantWalk_frame :
    b.grantWalk.ready = b.ready ∧ b.grantWalk.cause = b.cause ∧ b.grantWalk.feedStop = b.feedStop ∧
    b.grantWalk.order = b.order ∧ b.grantWalk.clock = b.clock ∧ b.grantWalk.lines = b.lines ∧
    b.grantWalk.blu = b.blu ∧ b.grantWalk.tdu = b.tdu ∧ b.grantWalk.link = b.link ∧
    b.grantWalk.notices = b.notices ∧ b.grantWalk.rcs = b.rcs ∧ b.grantWalk.cmc = b.cmc := by
  unfold grantWalk
  dsimp only
  (repeat' split) <;> simp

@[simp] theorem grantFrame_frame :
    b.grantFrame.ready = b.ready ∧ b.grantFrame.cause = b.cause ∧ b.grantFrame.feedStop = b.feedStop ∧
    b.grantFrame.order = b.order ∧ b.grantFrame.clock = b.clock ∧ b.grantFrame.lines = b.lines ∧
    b.grantFrame.blu = b.blu ∧ b.grantFrame.tdu = b.tdu ∧ b.grantFrame.link = b.link ∧
    b.grantFrame.notices = b.notices ∧ b.grantFrame.rcs = b.rcs ∧ b.grantFrame.cmc = b.cmc := by
  unfold grantFrame
  (repeat' split) <;> simp

@[simp] theorem grant_frame :
    b.grant.ready = b.ready ∧ b.grant.cause = b.cause ∧ b.grant.feedStop = b.feedStop ∧
    b.grant.order = b.order ∧ b.grant.clock = b.clock ∧ b.grant.lines = b.lines ∧
    b.grant.blu = b.blu ∧ b.grant.tdu = b.tdu ∧ b.grant.link = b.link ∧
    b.grant.notices = b.notices ∧ b.grant.rcs = b.rcs ∧ b.grant.cmc = b.cmc := by
  unfold grant
  (repeat' split) <;> simp

@[simp] theorem frameSent_frame :
    b.frameSent.ready = b.ready ∧ b.frameSent.cause = b.cause ∧ b.frameSent.feedStop = b.feedStop ∧
    b.frameSent.order = b.order ∧ b.frameSent.clock = b.clock ∧ b.frameSent.lines = b.lines ∧
    b.frameSent.blu = b.blu ∧ b.frameSent.tdu = b.tdu ∧ b.frameSent.link = b.link ∧
    b.frameSent.notices = b.notices ∧ b.frameSent.rcs = b.rcs ∧ b.frameSent.cmc = b.cmc := by
  unfold frameSent
  (repeat' split) <;> simp

@[simp] theorem freeBus_frame :
    b.freeBus.ready = b.ready ∧ b.freeBus.cause = b.cause ∧ b.freeBus.feedStop = b.feedStop ∧
    b.freeBus.order = b.order ∧ b.freeBus.clock = b.clock ∧ b.freeBus.lines = b.lines ∧
    b.freeBus.blu = b.blu ∧ b.freeBus.tdu = b.tdu ∧ b.freeBus.link = b.link ∧
    b.freeBus.notices = b.notices ∧ b.freeBus.rcs = b.rcs ∧ b.freeBus.cmc = b.cmc := by
  unfold freeBus
  simp

@[simp] theorem decideAnswer_frame (t : Transaction) (o : PollOutcome) (p : List Byte) :
    (b.decideAnswer t o p).ready = b.ready ∧ (b.decideAnswer t o p).cause = b.cause ∧ (b.decideAnswer t o p).feedStop = b.feedStop ∧
    (b.decideAnswer t o p).order = b.order ∧ (b.decideAnswer t o p).clock = b.clock ∧ (b.decideAnswer t o p).cmc = b.cmc := by
  unfold decideAnswer
  (repeat' split) <;> simp

@[simp] theorem keepAnswer_frame (t : Transaction) (cs : List BusChar) :
    (b.keepAnswer t cs).ready = b.ready ∧ (b.keepAnswer t cs).cause = b.cause ∧ (b.keepAnswer t cs).feedStop = b.feedStop ∧
    (b.keepAnswer t cs).order = b.order ∧ (b.keepAnswer t cs).clock = b.clock ∧ (b.keepAnswer t cs).lines = b.lines ∧
    (b.keepAnswer t cs).blu = b.blu ∧ (b.keepAnswer t cs).tdu = b.tdu ∧ (b.keepAnswer t cs).link = b.link ∧
    (b.keepAnswer t cs).notices = b.notices ∧ (b.keepAnswer t cs).rcs = b.rcs ∧ (b.keepAnswer t cs).cmc = b.cmc := by
  unfold keepAnswer
  simp

@[simp] theorem answerChar_frame (t : Transaction) (c : BusChar) :
    (b.answerChar t c).ready = b.ready ∧ (b.answerChar t c).cause = b.cause ∧ (b.answerChar t c).feedStop = b.feedStop ∧
    (b.answerChar t c).order = b.order ∧ (b.answerChar t c).clock = b.clock ∧ (b.answerChar t c).cmc = b.cmc := by
  unfold answerChar
  dsimp only
  (repeat' split) <;> simp

@[simp] theorem busChar_frame (c : BusChar) :
    (b.busChar c).ready = b.ready ∧ (b.busChar c).cause = b.cause ∧ (b.busChar c).feedStop = b.feedStop ∧
    (b.busChar c).order = b.order ∧ (b.busChar c).clock = b.clock ∧ (b.busChar c).cmc = b.cmc := by
  unfold busChar
  (repeat' split) <;> simp

@[simp] theorem decideNow_frame (o : PollOutcome) :
    (b.decideNow o).ready = b.ready ∧ (b.decideNow o).cause = b.cause ∧ (b.decideNow o).feedStop = b.feedStop ∧
    (b.decideNow o).order = b.order ∧ (b.decideNow o).clock = b.clock ∧ (b.decideNow o).cmc = b.cmc := by
  unfold decideNow
  (repeat' split) <;> simp

@[simp] theorem endWindow_frame :
    b.endWindow.ready = b.ready ∧ b.endWindow.cause = b.cause ∧ b.endWindow.feedStop = b.feedStop ∧
    b.endWindow.order = b.order ∧ b.endWindow.clock = b.clock ∧ b.endWindow.lines = b.lines ∧
    b.endWindow.blu = b.blu ∧ b.endWindow.tdu = b.tdu ∧ b.endWindow.rcs = b.rcs ∧
    b.endWindow.cmc = b.cmc := by
  unfold endWindow
  (repeat' split) <;> simp

@[simp] theorem sendOwedAlong_frame (es : List NoticeEntry) :
    (sendOwedAlong es b).ready = b.ready ∧ (sendOwedAlong es b).cause = b.cause ∧ (sendOwedAlong es b).feedStop = b.feedStop ∧
    (sendOwedAlong es b).order = b.order ∧ (sendOwedAlong es b).clock = b.clock ∧ (sendOwedAlong es b).lines = b.lines ∧
    (sendOwedAlong es b).blu = b.blu ∧ (sendOwedAlong es b).tdu = b.tdu ∧ (sendOwedAlong es b).bus = b.bus ∧
    (sendOwedAlong es b).rcs = b.rcs ∧ (sendOwedAlong es b).cmc = b.cmc := by
  induction es generalizing b with
  | nil => simp [sendOwedAlong]
  | cons e es ih =>
    unfold sendOwedAlong
    (repeat' split) <;> simp [ih]

@[simp] theorem sendOwed_frame  :
    b.sendOwed.ready = b.ready ∧ b.sendOwed.cause = b.cause ∧ b.sendOwed.feedStop = b.feedStop ∧
    b.sendOwed.order = b.order ∧ b.sendOwed.clock = b.clock ∧ b.sendOwed.lines = b.lines ∧
    b.sendOwed.blu = b.blu ∧ b.sendOwed.tdu = b.tdu ∧ b.sendOwed.bus = b.bus ∧
    b.sendOwed.rcs = b.rcs ∧ b.sendOwed.cmc = b.cmc := by
  simp [sendOwed]

@[simp] theorem refloorAlong_frame (w : NoticeKind → Bool) (es : List NoticeEntry) :
    (refloorAlong w es b).ready = b.ready ∧ (refloorAlong w es b).cause = b.cause ∧ (refloorAlong w es b).feedStop = b.feedStop ∧
    (refloorAlong w es b).order = b.order ∧ (refloorAlong w es b).clock = b.clock ∧ (refloorAlong w es b).lines = b.lines ∧
    (refloorAlong w es b).blu = b.blu ∧ (refloorAlong w es b).tdu = b.tdu ∧ (refloorAlong w es b).bus = b.bus ∧
    (refloorAlong w es b).rcs = b.rcs ∧ (refloorAlong w es b).cmc = b.cmc := by
  induction es generalizing b with
  | nil => simp [refloorAlong]
  | cons e es ih =>
    unfold refloorAlong
    (repeat' split) <;> simp [ih]

@[simp] theorem refloor_frame (w : NoticeKind → Bool) :
    (refloor w b).ready = b.ready ∧ (refloor w b).cause = b.cause ∧ (refloor w b).feedStop = b.feedStop ∧
    (refloor w b).order = b.order ∧ (refloor w b).clock = b.clock ∧ (refloor w b).lines = b.lines ∧
    (refloor w b).blu = b.blu ∧ (refloor w b).tdu = b.tdu ∧ (refloor w b).bus = b.bus ∧
    (refloor w b).rcs = b.rcs ∧ (refloor w b).cmc = b.cmc := by
  simp [refloor]

@[simp] theorem feedStopTaken_frame  :
    b.feedStopTaken.ready = b.ready ∧ b.feedStopTaken.cause = b.cause ∧ b.feedStopTaken.order = b.order ∧
    b.feedStopTaken.clock = b.clock ∧ b.feedStopTaken.tdu = b.tdu ∧ b.feedStopTaken.bus = b.bus ∧
    b.feedStopTaken.cmc = b.cmc := by
  simp [feedStopTaken, allLines, List.foldl]

end Block

@[simp] theorem Block.takeLimitNow_frame (b : Block) (l : LineId) :
    (b.takeLimitNow l).ready = b.ready ∧ (b.takeLimitNow l).cause = b.cause ∧ (b.takeLimitNow l).feedStop = b.feedStop ∧
    (b.takeLimitNow l).order = b.order ∧ (b.takeLimitNow l).clock = b.clock ∧ (b.takeLimitNow l).tdu = b.tdu ∧
    (b.takeLimitNow l).bus = b.bus ∧ (b.takeLimitNow l).cmc = b.cmc := by
  unfold Block.takeLimitNow
  split <;> simp

@[simp] theorem Block.withTaken_frame (b : Block) (x : PerLine Taken) :
    (b.withTaken x).ready = b.ready ∧ (b.withTaken x).cause = b.cause ∧ (b.withTaken x).feedStop = b.feedStop ∧
    (b.withTaken x).order = b.order ∧ (b.withTaken x).clock = b.clock ∧ (b.withTaken x).lines = b.lines ∧
    (b.withTaken x).tdu = b.tdu ∧ (b.withTaken x).bus = b.bus ∧ (b.withTaken x).link = b.link ∧
    (b.withTaken x).notices = b.notices ∧ (b.withTaken x).rcs = b.rcs ∧ (b.withTaken x).cmc = b.cmc := by
  simp [Block.withTaken]

/-- The copies hold what they have taken. -/
@[simp] theorem Block.withTaken_taken (b : Block) (x : PerLine Taken) : (b.withTaken x).taken = x := by
  cases x; rfl

/-- Taking what the copies hold changes nothing. -/
@[simp] theorem Block.withTaken_self (b : Block) : b.withTaken b.taken = b := rfl

@[simp] theorem Pass.takeLine_block (x : Pass) (l : LineId) : (x.takeLine l).block = x.block := rfl

@[simp] theorem Pass.cycle_frame (x : Pass) :
    x.cycle.block.ready = x.block.ready ∧ x.cycle.block.cause = x.block.cause ∧
    x.cycle.block.feedStop = x.block.feedStop ∧ x.cycle.block.order = x.block.order ∧
    x.cycle.block.clock = x.block.clock ∧ x.cycle.block.bus = x.block.bus ∧
    x.cycle.block.rcs = x.block.rcs ∧ x.cycle.block.cmc = x.block.cmc ∧
    x.cycle.block.taken = x.block.taken := by
  simp [Pass.cycle]

@[simp] theorem Job.act_frame (b : Block) (j : Job) :
    (j.act b).ready = b.ready ∧ (j.act b).cause = b.cause ∧ (j.act b).feedStop = b.feedStop ∧
    (j.act b).order = b.order ∧ (j.act b).clock = b.clock ∧ (j.act b).bus = b.bus ∧
    (j.act b).cmc = b.cmc := by
  unfold Job.act
  split <;> simp

@[simp] theorem Job.run_frame (x : Pass) (j : Job) :
    (j.run x).block.ready = x.block.ready ∧ (j.run x).block.cause = x.block.cause ∧ (j.run x).block.feedStop = x.block.feedStop ∧
    (j.run x).block.order = x.block.order ∧ (j.run x).block.clock = x.block.clock ∧ (j.run x).block.bus = x.block.bus ∧
    (j.run x).block.cmc = x.block.cmc := by
  unfold Job.run
  split <;> simp

@[simp] theorem foldJobs_frame (js : List Job) (x : Pass) :
    (js.foldl (fun x j => j.run x) x).block.ready = x.block.ready ∧ (js.foldl (fun x j => j.run x) x).block.cause = x.block.cause ∧ (js.foldl (fun x j => j.run x) x).block.feedStop = x.block.feedStop ∧
    (js.foldl (fun x j => j.run x) x).block.order = x.block.order ∧ (js.foldl (fun x j => j.run x) x).block.clock = x.block.clock ∧ (js.foldl (fun x j => j.run x) x).block.bus = x.block.bus ∧
    (js.foldl (fun x j => j.run x) x).block.cmc = x.block.cmc := by
  induction js generalizing x with
  | nil => simp
  | cons j js ih => simp [ih]

namespace Block
variable (b : Block)

@[simp] theorem deliverAll_frame (js : List Job) :
    (b.deliverAll js).ready = b.ready ∧ (b.deliverAll js).cause = b.cause ∧
    (b.deliverAll js).feedStop = b.feedStop ∧ (b.deliverAll js).order = b.order ∧
    (b.deliverAll js).clock = b.clock ∧ (b.deliverAll js).bus = b.bus ∧ (b.deliverAll js).cmc = b.cmc := by
  simp [deliverAll]

@[simp] theorem deliver_frame (js : List Job) :
    (b.deliver js).ready = b.ready ∧ (b.deliver js).cause = b.cause ∧ (b.deliver js).feedStop = b.feedStop ∧
    (b.deliver js).order = b.order ∧ (b.deliver js).clock = b.clock ∧ (b.deliver js).bus = b.bus ∧
    (b.deliver js).cmc = b.cmc := by
  simp [deliver, allLines, List.foldl]

@[simp] theorem takeLate_frame :
    b.takeLate.ready = b.ready ∧ b.takeLate.cause = b.cause ∧ b.takeLate.feedStop = b.feedStop ∧
    b.takeLate.order = b.order ∧ b.takeLate.clock = { b.clock with late := [] } ∧ b.takeLate.bus = b.bus ∧
    b.takeLate.cmc = b.cmc := by
  unfold takeLate
  split
  · next h => simp [← h]
  · simp

/-- With no close put off nothing is taken. -/
theorem takeLate_of_none (h : b.clock.late = []) : b.takeLate = b := by
  unfold takeLate
  rw [h]

/-- Taking the closes put off twice is taking them once. -/
@[simp] theorem takeLate_takeLate : b.takeLate.takeLate = b.takeLate := takeLate_of_none _ (by simp)

@[simp] theorem runJobs_frame (js : List Job) :
    (b.runJobs js).ready = b.ready ∧ (b.runJobs js).cause = b.cause ∧ (b.runJobs js).feedStop = b.feedStop ∧
    (b.runJobs js).order = b.order ∧ (b.runJobs js).bus = b.bus ∧ (b.runJobs js).cmc = b.cmc ∧
    (b.runJobs js).clock =
      { b.clock with late := b.clock.late ++ (arrange b.order js).filter (b.putsOff js) } := by
  simp [runJobs]

@[simp] theorem secondTick_frame  :
    b.secondTick.ready = b.ready ∧ b.secondTick.cause = b.cause ∧ b.secondTick.feedStop = b.feedStop ∧
    b.secondTick.order = b.order ∧ b.secondTick.bus = b.bus ∧ b.secondTick.cmc = b.cmc := by
  unfold secondTick tickUnset tickTo tickEnd countUptime
  try dsimp only
  (repeat' split) <;> simp

@[simp] theorem setTime_frame (t : Time) (cs : List Close) :
    (b.setTime t cs).ready = b.ready ∧ (b.setTime t cs).cause = b.cause ∧ (b.setTime t cs).feedStop = b.feedStop ∧
    (b.setTime t cs).order = b.order ∧ (b.setTime t cs).bus = b.bus ∧ (b.setTime t cs).cmc = b.cmc := by
  simp [setTime]

@[simp] theorem serveClockSet_frame (y d s : Nat) :
    (b.serveClockSet y d s).1.ready = b.ready ∧ (b.serveClockSet y d s).1.cause = b.cause ∧ (b.serveClockSet y d s).1.feedStop = b.feedStop ∧
    (b.serveClockSet y d s).1.order = b.order ∧ (b.serveClockSet y d s).1.bus = b.bus ∧ (b.serveClockSet y d s).1.cmc = b.cmc := by
  unfold serveClockSet
  try dsimp only
  (repeat' split) <;> simp

@[simp] theorem serveParamSet_frame (g i k v : Nat) :
    (b.serveParamSet g i k v).1.ready = b.ready ∧ (b.serveParamSet g i k v).1.cause = b.cause ∧ (b.serveParamSet g i k v).1.feedStop = b.feedStop ∧
    (b.serveParamSet g i k v).1.order = b.order ∧ (b.serveParamSet g i k v).1.clock = b.clock ∧ (b.serveParamSet g i k v).1.tdu = b.tdu := by
  unfold serveParamSet writeParam afterWrite
  try dsimp only
  (repeat' split) <;> simp

@[simp] theorem serveConfigSave_frame  :
    b.serveConfigSave.1.ready = b.ready ∧ b.serveConfigSave.1.cause = b.cause ∧ b.serveConfigSave.1.feedStop = b.feedStop ∧
    b.serveConfigSave.1.order = b.order ∧ b.serveConfigSave.1.clock = b.clock ∧ b.serveConfigSave.1.lines = b.lines ∧
    b.serveConfigSave.1.blu = b.blu ∧ b.serveConfigSave.1.tdu = b.tdu ∧ b.serveConfigSave.1.bus = b.bus ∧
    b.serveConfigSave.1.link = b.link ∧ b.serveConfigSave.1.notices = b.notices ∧ b.serveConfigSave.1.rcs = b.rcs := by
  unfold serveConfigSave
  try dsimp only
  (repeat' split) <;> simp

@[simp] theorem serveAllowanceRestore_frame (l : LineId) (y u : Nat) (t : PerPollutant Nat) :
    (b.serveAllowanceRestore l y u t).1.ready = b.ready ∧ (b.serveAllowanceRestore l y u t).1.cause = b.cause ∧ (b.serveAllowanceRestore l y u t).1.feedStop = b.feedStop ∧
    (b.serveAllowanceRestore l y u t).1.order = b.order ∧ (b.serveAllowanceRestore l y u t).1.clock.time = b.clock.time ∧
    (b.serveAllowanceRestore l y u t).1.clock.phase = b.clock.phase ∧ (b.serveAllowanceRestore l y u t).1.clock.uptime = b.clock.uptime ∧
    (b.serveAllowanceRestore l y u t).1.clock.lastSet = b.clock.lastSet ∧ (b.serveAllowanceRestore l y u t).1.bus = b.bus ∧
    (b.serveAllowanceRestore l y u t).1.cmc = b.cmc := by
  unfold serveAllowanceRestore
  try dsimp only
  (repeat' split) <;> simp [restoreFigures]

@[simp] theorem serveLineStart_frame (l : LineId) :
    (b.serveLineStart l).1.ready = b.ready ∧ (b.serveLineStart l).1.cause = b.cause ∧ (b.serveLineStart l).1.feedStop = b.feedStop ∧
    (b.serveLineStart l).1.order = b.order ∧ (b.serveLineStart l).1.clock = b.clock ∧ (b.serveLineStart l).1.tdu = b.tdu ∧
    (b.serveLineStart l).1.bus = b.bus ∧ (b.serveLineStart l).1.cmc = b.cmc := by
  unfold serveLineStart
  try dsimp only
  (repeat' split) <;> simp [lineDone]

@[simp] theorem serveLineFeed_frame (l : LineId) :
    (b.serveLineFeed l).1.ready = b.ready ∧ (b.serveLineFeed l).1.cause = b.cause ∧ (b.serveLineFeed l).1.feedStop = b.feedStop ∧
    (b.serveLineFeed l).1.order = b.order ∧ (b.serveLineFeed l).1.clock = b.clock ∧ (b.serveLineFeed l).1.tdu = b.tdu ∧
    (b.serveLineFeed l).1.bus = b.bus ∧ (b.serveLineFeed l).1.cmc = b.cmc := by
  unfold serveLineFeed
  try dsimp only
  (repeat' split) <;> simp [lineDone]

@[simp] theorem serveLineStop_frame (l : LineId) :
    (b.serveLineStop l).1.ready = b.ready ∧ (b.serveLineStop l).1.cause = b.cause ∧ (b.serveLineStop l).1.feedStop = b.feedStop ∧
    (b.serveLineStop l).1.order = b.order ∧ (b.serveLineStop l).1.clock = b.clock ∧ (b.serveLineStop l).1.tdu = b.tdu ∧
    (b.serveLineStop l).1.bus = b.bus ∧ (b.serveLineStop l).1.cmc = b.cmc := by
  unfold serveLineStop
  try dsimp only
  (repeat' split) <;> simp [lineDone]

@[simp] theorem serveLineCeiling_frame (l : LineId) (v : Nat) :
    (b.serveLineCeiling l v).1.ready = b.ready ∧ (b.serveLineCeiling l v).1.cause = b.cause ∧ (b.serveLineCeiling l v).1.feedStop = b.feedStop ∧
    (b.serveLineCeiling l v).1.order = b.order ∧ (b.serveLineCeiling l v).1.clock = b.clock ∧ (b.serveLineCeiling l v).1.tdu = b.tdu ∧
    (b.serveLineCeiling l v).1.bus = b.bus ∧ (b.serveLineCeiling l v).1.link = b.link ∧ (b.serveLineCeiling l v).1.notices = b.notices ∧
    (b.serveLineCeiling l v).1.rcs = b.rcs ∧ (b.serveLineCeiling l v).1.cmc = b.cmc := by
  unfold serveLineCeiling
  try dsimp only
  simp

@[simp] theorem serveDeclareAction_frame (l : LineId) (n : Nat) :
    (b.serveDeclareAction l n).1.ready = b.ready ∧ (b.serveDeclareAction l n).1.cause = b.cause ∧ (b.serveDeclareAction l n).1.feedStop = b.feedStop ∧
    (b.serveDeclareAction l n).1.order = b.order ∧ (b.serveDeclareAction l n).1.clock = b.clock ∧ (b.serveDeclareAction l n).1.tdu = b.tdu ∧
    (b.serveDeclareAction l n).1.bus = b.bus ∧ (b.serveDeclareAction l n).1.cmc = b.cmc := by
  unfold serveDeclareAction
  try dsimp only
  (repeat' split) <;> simp [serveLineDeclare]

@[simp] theorem serveTurbineStart_frame (t : TurbineId) :
    (b.serveTurbineStart t).1.ready = b.ready ∧ (b.serveTurbineStart t).1.cause = b.cause ∧ (b.serveTurbineStart t).1.feedStop = b.feedStop ∧
    (b.serveTurbineStart t).1.order = b.order ∧ (b.serveTurbineStart t).1.clock = b.clock ∧ (b.serveTurbineStart t).1.lines = b.lines ∧
    (b.serveTurbineStart t).1.blu = b.blu ∧ (b.serveTurbineStart t).1.bus = b.bus ∧ (b.serveTurbineStart t).1.link = b.link ∧
    (b.serveTurbineStart t).1.notices = b.notices ∧ (b.serveTurbineStart t).1.rcs = b.rcs ∧ (b.serveTurbineStart t).1.cmc = b.cmc := by
  unfold serveTurbineStart
  try dsimp only
  (repeat' split) <;> simp [turbineDone]

@[simp] theorem serveTurbineStop_frame (t : TurbineId) :
    (b.serveTurbineStop t).1.ready = b.ready ∧ (b.serveTurbineStop t).1.cause = b.cause ∧ (b.serveTurbineStop t).1.feedStop = b.feedStop ∧
    (b.serveTurbineStop t).1.order = b.order ∧ (b.serveTurbineStop t).1.clock = b.clock ∧ (b.serveTurbineStop t).1.lines = b.lines ∧
    (b.serveTurbineStop t).1.blu = b.blu ∧ (b.serveTurbineStop t).1.bus = b.bus ∧ (b.serveTurbineStop t).1.link = b.link ∧
    (b.serveTurbineStop t).1.notices = b.notices ∧ (b.serveTurbineStop t).1.rcs = b.rcs ∧ (b.serveTurbineStop t).1.cmc = b.cmc := by
  unfold serveTurbineStop
  try dsimp only
  (repeat' split) <;> simp [turbineDone]

@[simp] theorem serveTripReset_frame (t : TurbineId) :
    (b.serveTripReset t).1.ready = b.ready ∧ (b.serveTripReset t).1.cause = b.cause ∧ (b.serveTripReset t).1.feedStop = b.feedStop ∧
    (b.serveTripReset t).1.order = b.order ∧ (b.serveTripReset t).1.clock = b.clock ∧ (b.serveTripReset t).1.lines = b.lines ∧
    (b.serveTripReset t).1.blu = b.blu ∧ (b.serveTripReset t).1.bus = b.bus ∧ (b.serveTripReset t).1.link = b.link ∧
    (b.serveTripReset t).1.notices = b.notices ∧ (b.serveTripReset t).1.rcs = b.rcs ∧ (b.serveTripReset t).1.cmc = b.cmc := by
  unfold serveTripReset
  try dsimp only
  (repeat' split) <;> simp [turbineDone]

@[simp] theorem serveScheduleAdd_frame (t : EffTime) (p h : Nat) :
    (b.serveScheduleAdd t p h).1.ready = b.ready ∧ (b.serveScheduleAdd t p h).1.cause = b.cause ∧ (b.serveScheduleAdd t p h).1.feedStop = b.feedStop ∧
    (b.serveScheduleAdd t p h).1.order = b.order ∧ (b.serveScheduleAdd t p h).1.clock = b.clock ∧ (b.serveScheduleAdd t p h).1.lines = b.lines ∧
    (b.serveScheduleAdd t p h).1.blu = b.blu ∧ (b.serveScheduleAdd t p h).1.bus = b.bus ∧ (b.serveScheduleAdd t p h).1.link = b.link ∧
    (b.serveScheduleAdd t p h).1.notices = b.notices ∧ (b.serveScheduleAdd t p h).1.rcs = b.rcs ∧ (b.serveScheduleAdd t p h).1.cmc = b.cmc := by
  unfold serveScheduleAdd
  try dsimp only
  (repeat' split) <;> simp

@[simp] theorem serveScheduleCancel_frame (t : EffTime) :
    (b.serveScheduleCancel t).1.ready = b.ready ∧ (b.serveScheduleCancel t).1.cause = b.cause ∧ (b.serveScheduleCancel t).1.feedStop = b.feedStop ∧
    (b.serveScheduleCancel t).1.order = b.order ∧ (b.serveScheduleCancel t).1.clock = b.clock ∧ (b.serveScheduleCancel t).1.lines = b.lines ∧
    (b.serveScheduleCancel t).1.blu = b.blu ∧ (b.serveScheduleCancel t).1.bus = b.bus ∧ (b.serveScheduleCancel t).1.link = b.link ∧
    (b.serveScheduleCancel t).1.notices = b.notices ∧ (b.serveScheduleCancel t).1.rcs = b.rcs ∧ (b.serveScheduleCancel t).1.cmc = b.cmc := by
  unfold serveScheduleCancel
  try dsimp only
  (repeat' split) <;> simp

@[simp] theorem serveStationEnrol_frame  :
    b.serveStationEnrol.1.ready = b.ready ∧ b.serveStationEnrol.1.cause = b.cause ∧ b.serveStationEnrol.1.feedStop = b.feedStop ∧
    b.serveStationEnrol.1.order = b.order ∧ b.serveStationEnrol.1.clock = b.clock ∧ b.serveStationEnrol.1.lines = b.lines ∧
    b.serveStationEnrol.1.blu = b.blu ∧ b.serveStationEnrol.1.tdu = b.tdu ∧ b.serveStationEnrol.1.link = b.link ∧
    b.serveStationEnrol.1.notices = b.notices ∧ b.serveStationEnrol.1.rcs = b.rcs ∧ b.serveStationEnrol.1.cmc = b.cmc := by
  unfold serveStationEnrol
  try dsimp only
  (repeat' split) <;> simp [beginWalk]

@[simp] theorem serveStationBind_frame (n : Nat) (r : Role) :
    (b.serveStationBind n r).1.ready = b.ready ∧ (b.serveStationBind n r).1.cause = b.cause ∧ (b.serveStationBind n r).1.feedStop = b.feedStop ∧
    (b.serveStationBind n r).1.order = b.order ∧ (b.serveStationBind n r).1.clock = b.clock ∧ (b.serveStationBind n r).1.cmc = b.cmc := by
  unfold serveStationBind
  try dsimp only
  (repeat' split) <;> simp

@[simp] theorem serveStationUnbind_frame (r : Role) :
    (b.serveStationUnbind r).1.ready = b.ready ∧ (b.serveStationUnbind r).1.cause = b.cause ∧ (b.serveStationUnbind r).1.feedStop = b.feedStop ∧
    (b.serveStationUnbind r).1.order = b.order ∧ (b.serveStationUnbind r).1.clock = b.clock ∧ (b.serveStationUnbind r).1.cmc = b.cmc := by
  unfold serveStationUnbind
  try dsimp only
  (repeat' split) <;> simp

@[simp] theorem serveStationForget_frame (n : Nat) :
    (b.serveStationForget n).1.ready = b.ready ∧ (b.serveStationForget n).1.cause = b.cause ∧ (b.serveStationForget n).1.feedStop = b.feedStop ∧
    (b.serveStationForget n).1.order = b.order ∧ (b.serveStationForget n).1.clock = b.clock ∧ (b.serveStationForget n).1.cmc = b.cmc := by
  unfold serveStationForget forgetStation removeStation
  try dsimp only
  (repeat' split) <;> simp

@[simp] theorem serveNoticeClear_frame (k n : Nat) :
    (b.serveNoticeClear k n).1.ready = b.ready ∧ (b.serveNoticeClear k n).1.cause = b.cause ∧ (b.serveNoticeClear k n).1.feedStop = b.feedStop ∧
    (b.serveNoticeClear k n).1.order = b.order ∧ (b.serveNoticeClear k n).1.clock = b.clock ∧ (b.serveNoticeClear k n).1.lines = b.lines ∧
    (b.serveNoticeClear k n).1.blu = b.blu ∧ (b.serveNoticeClear k n).1.tdu = b.tdu ∧ (b.serveNoticeClear k n).1.bus = b.bus ∧
    (b.serveNoticeClear k n).1.link = b.link ∧ (b.serveNoticeClear k n).1.rcs = b.rcs ∧ (b.serveNoticeClear k n).1.cmc = b.cmc := by
  unfold serveNoticeClear
  try dsimp only
  (repeat' split) <;> simp

@[simp] theorem serveNoticeFloor_frame (n : Nat) :
    (b.serveNoticeFloor n).1.ready = b.ready ∧ (b.serveNoticeFloor n).1.cause = b.cause ∧ (b.serveNoticeFloor n).1.feedStop = b.feedStop ∧
    (b.serveNoticeFloor n).1.order = b.order ∧ (b.serveNoticeFloor n).1.clock = b.clock ∧ (b.serveNoticeFloor n).1.lines = b.lines ∧
    (b.serveNoticeFloor n).1.blu = b.blu ∧ (b.serveNoticeFloor n).1.tdu = b.tdu ∧ (b.serveNoticeFloor n).1.bus = b.bus ∧
    (b.serveNoticeFloor n).1.rcs = b.rcs ∧ (b.serveNoticeFloor n).1.cmc = b.cmc := by
  unfold serveNoticeFloor
  try dsimp only
  simp

@[simp] theorem serveRecordsFetch_frame (s n : Nat) :
    (b.serveRecordsFetch s n).1.ready = b.ready ∧ (b.serveRecordsFetch s n).1.cause = b.cause ∧ (b.serveRecordsFetch s n).1.feedStop = b.feedStop ∧
    (b.serveRecordsFetch s n).1.order = b.order ∧ (b.serveRecordsFetch s n).1.clock = b.clock ∧ (b.serveRecordsFetch s n).1.lines = b.lines ∧
    (b.serveRecordsFetch s n).1.blu = b.blu ∧ (b.serveRecordsFetch s n).1.tdu = b.tdu ∧ (b.serveRecordsFetch s n).1.bus = b.bus ∧
    (b.serveRecordsFetch s n).1.link = b.link ∧ (b.serveRecordsFetch s n).1.notices = b.notices ∧ (b.serveRecordsFetch s n).1.cmc = b.cmc := by
  unfold serveRecordsFetch
  try dsimp only
  simp

@[simp] theorem serveRestart_frame  :
    b.serveRestart.1.ready = b.ready ∧ b.serveRestart.1.cause = b.cause ∧ b.serveRestart.1.feedStop = b.feedStop ∧
    b.serveRestart.1.order = b.order ∧ b.serveRestart.1.clock = b.clock ∧ b.serveRestart.1.lines = b.lines ∧
    b.serveRestart.1.blu = b.blu ∧ b.serveRestart.1.tdu = b.tdu ∧ b.serveRestart.1.bus = b.bus ∧
    b.serveRestart.1.notices = b.notices ∧ b.serveRestart.1.rcs = b.rcs ∧ b.serveRestart.1.cmc = b.cmc := by
  unfold serveRestart
  try dsimp only
  simp

end Block
end Sys2Proof.Machine
end

