-- ==== Sys2Proof/Laws/Link.lean ====
section
/-! SUPPORT. A request sent whole on an idle link is executed and answered at once, and nothing else of
the link's record changes. The statements on requests rest on this one lemma. Then what a BUS_GRANT does. -/

namespace Sys2Proof.Machine
open Sys2Proof

/-- RDYO evaluated on an almost empty buffer is asserted. -/
theorem Link.evalRdyo_low (k : Link) (hd : k.restartDue = false) (h : k.held ≤ Config.rdyoLow) :
    k.evalRdyo = { k with rdyo := true } := by
  have h2 : ¬ Config.rdyoHigh ≤ k.held := by unfold Config.rdyoHigh; unfold Config.rdyoLow at h; omega
  simp [Link.evalRdyo, hd, h, h2]

/-- The facts an idle link gives. -/
theorem Block.linkIdle_iff (b : Block) : b.linkIdle = true ↔
    b.link.takes = true ∧ b.link.assembler = .hunt ∧ b.link.assembly = [] ∧ b.link.requests = [] ∧
    b.link.rdyo = true ∧ b.link.restarting = false ∧ b.link.awaiting = false ∧
    Config.requestRoom ≤ b.outboundFree := by
  simp [Block.linkIdle, and_assoc]

/-- A request of at most 248 payload bytes, sent whole on an idle link, is executed and answered. -/
theorem Block.submit_of_linkIdle (b : Block) (r : Request) (h : b.linkIdle = true)
    (hp : r.payload.length ≤ 248) : b.submit r = b.answer r := by
  obtain ⟨h1, h2, h3, h4, h5, h6, h7, h8⟩ := (b.linkIdle_iff).1 h
  have hheld : b.link.held = 0 := by simp [Link.held, h3, h4]
  have hroom : b.frameMeetsRoom r = true := by
    simp [Block.frameMeetsRoom, h1, h2, h3, hp, hheld, Request.size, Config.inboundSize]; omega
  unfold Block.submit
  rw [if_pos hroom]
  rcases b with ⟨ready, cause, feedStop, order, clock, lines, blu, tdu, bus, k, notices, rcs, cmc⟩
  rcases k with ⟨baud, receiver, lineLow, assembler, assembly, requests, outbound, sending, sent, rdyo, pend, due,
    awaiting, stray, gap, crc, overrun⟩
  simp only [Link.restarting, Bool.or_eq_false_iff] at h2 h3 h4 h5 h6 h7
  obtain ⟨h6, hd⟩ := h6
  subst h2 h3 h4 h5 h6 h7 hd
  have hr : r.payload.length + 6 ≤ Config.rdyoLow := by unfold Config.rdyoLow; omega
  have e1 : ∀ k : Link, k.requests = [r] → k.assembly = [] → k.rdyo = true →
      k.restartDue = false → k.evalRdyo = k := by
    intro k g1 g2 g3 g4
    rw [Link.evalRdyo_low k g4 (by simpa [Link.held, g1, g2, Request.size] using hr), ← g3]
  have e2 : ∀ k : Link, k.requests = [] → k.assembly = [] → k.rdyo = true →
      k.restartDue = false → k.evalRdyo = k := by
    intro k g1 g2 g3 g4
    rw [Link.evalRdyo_low k g4 (by simp [Link.held, g1, g2]), ← g3]
  have hm := h8
  simp only [Block.modLink, List.nil_append, Block.takeArrived, if_true, Block.takeWaiting]
  rw [e1 _ rfl rfl rfl rfl]
  simp only [Block.takeAlong]
  rw [if_pos (by simp only [Block.mayTake, Link.restarting, Bool.or_false, Bool.not_false, Bool.true_and, decide_eq_true_eq]; exact hm)]
  simp only [Block.take, Block.modLink]
  rw [e2 _ rfl rfl rfl rfl]

/-- A BUS_GRANT at which no frame leaves the queue: a grant, then what the link takes at that moment. -/
theorem Block.grantMoment_of_none_leaves (b : Block) (first : List LinkEvent)
    (h : b.bus.state ≠ .free ∨ b.bus.queue = []) : b.grantMoment first = first.foldl Block.linkEvent b.grant := by
  have : ¬(b.bus.state = .free ∧ b.bus.queue ≠ []) := fun g => h.elim (fun k => k g.1) (fun k => g.2 k)
  simp only [Block.grantMoment, if_neg this]

/-- A BUS_GRANT at which the oldest frame leaves the queue: the walk looks after what the link takes. -/
theorem Block.grantMoment_of_leaves (b : Block) (first : List LinkEvent) (u : Unanswered) (us : List Unanswered)
    (h : b.bus.state = .free) (hq : b.bus.queue = u :: us) :
    b.grantMoment first = (first.foldl Block.linkEvent (b.grantQueued u us)).queueFreed := by
  simp [Block.grantMoment, Block.grant, Block.grantFrame, h, hq]

end Sys2Proof.Machine
end

