-- ==== Sys2Proof/Laws/Memory.lean ====
section
/-! SUPPORT. The configuration memory: a read after a write, and the canonical form kept by every
operation and had by the state after reset. -/

namespace Sys2Proof.Machine
open Sys2Proof
namespace Memory

/-- The canonical form as an order: every address lies above a bound. -/
def Above (m : List Host.Cell) (a : Nat) : Prop := ∀ c ∈ m, a < c.1

theorem wf_cons {c : Host.Cell} {m : List Host.Cell} :
    wf (c :: m) = true ↔ c.2 ≠ blank ∧ c.1 < Config.memorySize ∧ Above m c.1 ∧ wf m = true := by
  induction m generalizing c with
  | nil => simp [wf, Above]
  | cons d m ih =>
    obtain ⟨a, v⟩ := c
    obtain ⟨a', v'⟩ := d
    have h1 : wf ((a, v) :: (a', v') :: m) = true ↔ v ≠ blank ∧ a < a' ∧ wf ((a', v') :: m) = true := by
      simp [wf, and_assoc]
    rw [h1]
    constructor
    · rintro ⟨hv, ha, hw⟩
      have h2 := ih.1 hw
      refine ⟨hv, by have := h2.2.1; simp only at this ⊢; omega, ?_, hw⟩
      intro e he
      rcases List.mem_cons.1 he with rfl | he
      · exact ha
      · exact lt_trans ha (h2.2.2.1 e he)
    · rintro ⟨hv, -, hab, hw⟩
      exact ⟨hv, hab (a', v') (by simp), hw⟩

theorem read_of_above {m : List Host.Cell} {a x : Nat} (h : Above m a) (hx : x ≤ a) : read m x = blank := by
  cases m with
  | nil => rfl
  | cons c m =>
    have hc := h c (by simp)
    simp only [read]
    rw [if_neg (by omega), if_pos (by omega)]

theorem write_above {m : List Host.Cell} {a x : Nat} {v : Byte} (h : Above m a) (hx : a < x) :
    Above (write m x v) a := by
  induction m with
  | nil =>
    unfold write
    split
    · intro c hc; simp at hc
    · intro c hc; simp at hc; subst hc; exact hx
  | cons c m ih =>
    have hm : Above m a := fun e he => h e (by simp [he])
    have hc := h c (by simp)
    unfold write
    split_ifs <;> intro e he
    · exact h e he
    · rcases List.mem_cons.1 he with rfl | he
      · exact hx
      · exact h e he
    · exact hm e he
    · rcases List.mem_cons.1 he with rfl | he
      · exact hx
      · exact hm e he
    · rcases List.mem_cons.1 he with rfl | he
      · exact hc
      · exact ih hm e he

/-- A write inside the memory keeps the canonical form. -/
theorem wf_write {m : List Host.Cell} {x : Nat} {v : Byte} (h : wf m = true)
    (hx : x < Config.memorySize) : wf (write m x v) = true := by
  induction m with
  | nil => unfold write; split_ifs with hv <;> simp [wf, hv, hx]
  | cons c m ih =>
    have hc := wf_cons.1 h
    unfold write
    split_ifs with h1 h2 h3 h4
    · exact h
    · refine wf_cons.2 ⟨h2, hx, ?_, h⟩
      intro e he
      rcases List.mem_cons.1 he with rfl | he
      · exact h1
      · exact lt_trans h1 (hc.2.2.1 e he)
    · exact hc.2.2.2
    · exact wf_cons.2 ⟨h4, hx, fun e he => h3 ▸ hc.2.2.1 e he, hc.2.2.2⟩
    · exact wf_cons.2 ⟨hc.1, hc.2.1, write_above hc.2.2.1 (by omega), ih hc.2.2.2⟩

/-- A read after a write: the byte written at its address, the old byte elsewhere. -/
theorem read_write {m : List Host.Cell} (h : wf m = true) (x : Nat) (v : Byte) (y : Nat) :
    read (write m x v) y = if y = x then v else read m y := by
  induction m with
  | nil =>
    by_cases hv : v = blank <;> by_cases hy : y = x
    · simp [write, read, hv]
    · simp [write, read, hv]
    · simp [write, read, hv, hy]
    · simp [write, read, hv, hy, Ne.symm hy]
  | cons c m ih =>
    obtain ⟨a, w⟩ := c
    have hc := wf_cons.1 h
    have ih := ih hc.2.2.2
    by_cases h1 : x < a
    · by_cases hv : v = blank <;> by_cases hy : y = x
      · subst hy; simp [write, read, h1, hv, Nat.ne_of_gt h1]
      · simp [write, h1, hv, hy]
      · simp [write, read, h1, hv, hy]
      · simp only [write, h1, if_true, if_neg hv, if_neg hy, read, if_neg (Ne.symm hy)]
        split_ifs <;> first | rfl | omega
    · by_cases h2 : x = a
      · subst h2
        by_cases hv : v = blank <;> by_cases hy : y = x
        · subst hy; simp [write, hv, read_of_above hc.2.2.1 (le_refl _)]
        · simp only [write, lt_irrefl, if_false, if_true, if_pos hv, if_neg hy, read, if_neg (Ne.symm hy)]
          split_ifs with h3
          · exact read_of_above hc.2.2.1 (le_of_lt h3)
          · rfl
        · simp [write, read, hv, hy]
        · simp [write, read, hv, hy, Ne.symm hy]
      · by_cases hy : y = x
        · subst hy; simp [write, read, h1, h2, Ne.symm h2, ih]
        · simp only [write, h1, h2, if_false, read, ih, if_neg hy]

/-- A run of writes keeps the canonical form. -/
theorem wf_writeAll {m : List Host.Cell} (h : wf m = true) (ws : List (Nat × Byte)) :
    wf (writeAll m ws) = true := by
  unfold writeAll
  induction ws generalizing m with
  | nil => exact h
  | cons w ws ih =>
    simp only [List.foldl_cons]
    split_ifs with hw
    · exact ih (wf_write h hw)
    · exact ih h

/-- The memory after reset has the canonical form. -/
theorem wf_reset : wf State.reset.block.cmc.memory = true := rfl

end Memory
end Sys2Proof.Machine
end

