-- ==== Sys2Proof/WellFormed.lean ====
section
/-! DEFINITION. Which commands are well formed: those an operand of the outside can describe. A request's
fields are of the widths of the kind table, so every value of them is one the host can send. -/

namespace Sys2Proof
open Sys2Proof.Machine

/-- The writes of a whole save: header, body and mark (R214). -/
def saveWrites : Nat := Config.headerLength + Config.bodyLength + 1

/-- A command's operands lie in their ranges: a reset interrupts a save at one of its 690 writes; a memory
cell lies in the memory; a pickup's elapsed cycles fit the period count, which overflows past it (R156);
and an unknown kind is none of the kind table, with a payload a frame can hold (R191). -/
def Instr.wellFormed : Instr → Bool
  | .powerOn _ _ written | .rstnReset _ _ written | .restartReset _ _ written =>
    decide (written ≤ saveWrites)
  | .configWriteDone bad => bad.all fun c => decide (c.1 < Config.memorySize)
  | .spdRisingEdge _ cycles => decide (cycles ≤ Config.max16)
  | .unknownKind _ kind payload => (reqKindOf kind).isNone && decide (payload.length ≤ 248)
  | .readyPoint _ _ _ _ | .secondTick _ | .firingEntry _ | .holdReturn _ | .holdLimit _ | .burnoutEnd _
  | .strokeDue _ | .strokeTimeout _ | .runupQualified _ | .runupTimeout _ | .feedStopAssert
  | .feedStopRelease | .tripAssert _ | .tripRelease _ | .speedCountOverflow _ | .busGrant _
  | .turnaroundEnd | .unansweredFrameEnd | .stationCharReceived _ | .strayCharacter _
  | .responseTimeout | .answerGapTimeout | .settleEnd | .rollCallWindowEnd | .hostByteReceived _
  | .hostGapTimeout | .linkReset | .hrdyAsserted | .messageSent _ | .ident _ | .clockSet _ _ _ _
  | .clockRead _ | .paramSet _ _ _ _ _ | .paramGet _ _ _ _ | .configSave _ | .configVerifyDone
  | .allowanceRestore _ _ _ _ _ _ _ _ _ | .lineStart _ _ | .lineFeed _ _ | .lineStop _ _
  | .lineCeiling _ _ _ | .lineDeclare _ _ _ | .turbineStart _ _ | .turbineStop _ _ | .tripReset _ _
  | .scheduleAdd _ _ _ _ _ _ | .scheduleCancel _ _ _ _ | .scheduleList _ | .stationEnrol _
  | .stationList _ _ | .stationBind _ _ _ | .stationUnbind _ _ | .stationForget _ _
  | .recordsFetch _ _ _ | .statusLine _ _ | .statusTurbine _ _ | .statusPlant _ | .noticeList _ _
  | .noticeClear _ _ _ | .noticeFloor _ _ | .restart _ | .stationFrameSent | .hrxdReturnedHigh => true

end Sys2Proof
end

