-- ==== Sys2Proof/Tests/Slice0.lean ====
section
/-! SUPPORT. Tests. Ill-formed commands are refused; a few values the spec itself gives; and for every
statement with hypotheses a concrete state and operands that meet them. -/

namespace Sys2Proof.Tests
set_option Elab.async false
open Sys2Proof Sys2Proof.Machine

/-! ## Well-formed commands -/

theorem test_wf_powerOn : Instr.wellFormed (.powerOn false false 691) = false := by decide
theorem test_wf_rstnReset : Instr.wellFormed (.rstnReset false false 691) = false := by decide
theorem test_wf_restartReset : Instr.wellFormed (.restartReset true true 691) = false := by decide
theorem test_wf_powerOn_whole : Instr.wellFormed (.powerOn false false 690) = true := by decide
theorem test_wf_configWriteDone : Instr.wellFormed (.configWriteDone [(8192, 0)]) = false := by decide
theorem test_wf_spdRisingEdge : Instr.wellFormed (.spdRisingEdge .t1 65536) = false := by decide
theorem test_wf_unknownKind_known : Instr.wellFormed (.unknownKind 0 1 []) = false := by decide
theorem test_wf_unknownKind_long : Instr.wellFormed (.unknownKind 0 0 (List.replicate 249 0)) = false := by
  decide +kernel
theorem test_wf_unknownKind : Instr.wellFormed (.unknownKind 0 0 [1, 2]) = true := by decide

/-! ## Values the spec gives -/

/-- The check value of the CRC over the nine digits (R162, R191). -/
theorem test_crc_check_value :
    crc16 [0x31, 0x32, 0x33, 0x34, 0x35, 0x36, 0x37, 0x38, 0x39] = 0x29B1 := by decide +kernel

/-- Chapter 4, one minute of L2: raw 1434 of 12 samples, and the normalized values of the table. -/
theorem test_minute_of_L2 : roundHalfUp 1434 12 = 120 ∧
    (polMinute true false false (some 124) (some 182) (some 22) 110).cn = some 26 ∧
    (polMinute true false false (some 124) (some 182) (some 465) 110).cn = some 541 ∧
    (polMinute true false false (some 124) (some 182) (some 1450) 110).cn = some 1686 ∧
    (polMinute true false true (some 124) (some 182) (some 52) 110).cn = some 74 ∧
    (polMinute true false true (some 105) (some 182) (some 52) 110).cn = some 64 ∧
    polMinute true false false (some 178) (some 182) (some 65000) 110 = ⟨.valid, some 65535, true⟩ := by
  decide +kernel

/-- Chapter 3.3: the stroke rate at a steady load. -/
theorem test_pacer_rate : strokeRate LineParams.default 880 9500 = 2501 := by decide +kernel

/-- Chapter 8.3: the conversion at the limits, P 500 and H 600. -/
theorem test_conversion_at_the_limits :
    convertHeat Params.default.turbine.t2 .free 0 600 = ⟨450, 277, 37⟩ ∧
    (convertPower Params.default.turbine.t1 .free 0 463).target = 700 ∧
    (convertPower Params.default.turbine.t1 .free 0 463).served = 152 := by decide +kernel

/-- Chapter 7.16: the lines of a normal cycle. -/
def caseLines : List FiringLine :=
  [⟨.l1, 240, 440, 40, 400⟩, ⟨.l2, 240, 440, 40, 400⟩, ⟨.l3, 240, 280, 20, 400⟩]

theorem test_normal_cycle : caseLines.map (allocate caseLines 984) = [352, 352, 280] := by decide +kernel

/-! ## States -/

/-- The part after its ready point, with no image, at the default parameters: an idle link. -/
def on : Block := State.reset.block.readyPoint true false false false

/-- A state with an empty queue. -/
def st (b : Block) : State := ⟨[], b⟩

/-- The clock running in the middle of 2026. -/
def noon : Time := ⟨2026, 200, 43200⟩

def running : Block := { on with clock := ⟨some noon, 0, 100, some noon, []⟩ }

/-- A station enrolled and bound. -/
def member (n : Nat) (kind : Byte) (r : Option Role) : Station :=
  ⟨n, ⟨kind, BitVec.ofNat 40 n⟩, false, false, r, 0, 0, 0, 0, 0, .uptime 0, 1000⟩

/-- Line 1's stations, the header and turbine 1. -/
def members : List Station :=
  [member 1 1 (some (.feeder .l1)), member 2 2 (some (.furnace .l1)), member 3 3 (some (.analyzerA .l1)),
   member 4 4 (some (.dosing .l1)), member 5 5 (some .header), member 6 6 (some (.turbine .t1))]

/-- The plant with its stations, the clock running and line 1's allowance restored. -/
def plant : Block :=
  (running.modBus fun x => { x with stations := members, queue := [] }).modDau .l1 fun d =>
    { d with restored := true, restoredYear := some 2026 }

/-- Line 1 in a state. -/
def lineIn (x : LineState) : Block := plant.modLsc .l1 fun l => { l with state := x }

theorem witness_link_idle : on.linkIdle = true ∧ plant.linkIdle = true := by decide +kernel

/-- A message being sent, with some of its bytes gone. -/
def half (n : Nat) : Block := plant.modLink fun k => { k with outbound := [[1, 2, 3]], sending := true, sent := n }

theorem witness_StepTakesFrontCommand : plant.link.sending = false ∧ (half 0).link.sending = true ∧
    (half 1).link.outbound = [[1, 2, 3]] ∧ (half 1).link.sent + 1 < [(1 : Byte), 2, 3].length ∧
    [(1 : Byte), 2, 3].length ≤ (half 2).link.sent + 1 ∧ plant.clock.late = [] ∧ (half 0).clock.late = [] ∧
    (∀ l, (plant.line l).lsc.limitDue = none) ∧ (∀ l, ((half 0).line l).lsc.limitDue = none) := by
  refine ⟨?_, ?_, ?_, ?_, ?_, ?_, ?_, fun l => ?_, fun l => ?_⟩ <;> first | decide +kernel | (cases l <;> rfl)

/-- The same plant with FEED-STOP asserted. -/
def stopped (x : LineState) : Block := { lineIn x with feedStop := true }

/-- Line 1 in RUNDOWN with a cause. -/
def rundownBy (c : RundownCause) : Block := (lineIn .rundown).modLsc .l1 fun l => { l with cause := c }

/-- An open episode of 10 minutes. -/
def episode : Episode := ⟨.clock noon, ⟨false, false, true⟩, 10, .none⟩

def withEpisode (x : LineState) : Block :=
  (lineIn x).modDau .l1 fun d => { d with causes := ⟨false, false, true⟩, episode := some episode }

/-! ## Witnesses: resets and the configuration -/

theorem witness_FullReset :
    on.cmc.save ≠ .writing ∧ State.reset.block.ready = false ∧ (on.modLink fun k => { k with restartDue := true }).link.restartDue = true := by
  decide +kernel

/-- A save at its first write. -/
def saving : Block :=
  plant.modCmc fun c => { c with save := .writing, snapshot := some ⟨Params.default, noBindings⟩ }

/-- The snapshot of that save. -/
def shot : Snapshot := ⟨Params.default, noBindings⟩

theorem witness_AbandonedSaveLoadsDefaults : saving.memoryOk = true ∧ saving.cmc.save = .writing ∧
    saving.cmc.snapshot = some shot ∧ 7 ≤ 7 ∧ 7 < shot.writes.length ∧ 689 < shot.writes.length := by
  decide +kernel

/-- A memory whose image is a header and a body of blank bytes, but for further cells. -/
def image (crc : Nat) (more : List Host.Cell) : List Host.Cell :=
  [(0, 0x10), (1, 0x13), (2, 0xA9), (3, 2), (4, byte crc), (5, byte (crc / 256)), (6, 0)] ++ more

def blanks : List Byte := List.replicate 68 0xFF

theorem image_body : Memory.readRun (image 32875 []) 8 681 =
    (List.replicate 10 blanks).flatten ++ [0xFF] := by decide +kernel

theorem image_crc_steps : blanks.foldl crcByte 65535#16 = 62008#16 ∧ blanks.foldl crcByte 62008#16 = 53436#16 ∧
    blanks.foldl crcByte 53436#16 = 18206#16 ∧ blanks.foldl crcByte 18206#16 = 37997#16 ∧
    blanks.foldl crcByte 37997#16 = 50667#16 ∧ blanks.foldl crcByte 50667#16 = 56538#16 ∧
    blanks.foldl crcByte 56538#16 = 13580#16 ∧ blanks.foldl crcByte 13580#16 = 21672#16 ∧
    blanks.foldl crcByte 21672#16 = 14687#16 ∧ blanks.foldl crcByte 14687#16 = 62513#16 ∧
    crcByte 62513#16 0xFF = 32875#16 := by
  decide +kernel

theorem image_crc : crc16 (Memory.readRun (image 32875 []) 8 681) = 32875#16 := by
  obtain ⟨a, b, c, d, e, f, g, h, i, j, k⟩ := image_crc_steps
  rw [image_body, crc16]
  simp only [List.replicate, List.flatten_cons, List.flatten_nil, List.append_nil, List.foldl_append, List.foldl_cons,
    List.foldl_nil, a, b, c, d, e, f, g, h, i, j, k]

/-- The piece of the body that holds the first place's presence byte. -/
def place1 : List Byte := List.replicate 4 0xFF ++ [1] ++ List.replicate 64 0xFF

theorem image_bound_body : Memory.readRun (image 24321 [(556, 1)]) 8 681 = (blanks ++ blanks ++ blanks ++ blanks ++
    blanks ++ blanks ++ blanks ++ blanks ++ place1 ++ blanks) := by decide +kernel

theorem image_bound_steps : place1.foldl crcByte 21672#16 = 32194#16 ∧ blanks.foldl crcByte 32194#16 = 24321#16 := by
  decide +kernel

theorem image_bound_crc : crc16 (Memory.readRun (image 24321 [(556, 1)]) 8 681) = 24321#16 := by
  obtain ⟨a, b, c, d, e, f, g, h, _⟩ := image_crc_steps
  obtain ⟨i, j⟩ := image_bound_steps
  rw [image_bound_body, crc16]
  simp only [List.foldl_append, a, b, c, d, e, f, g, h, i, j]

theorem none_bound (l : List (Option StationId)) (h : l.all Option.isNone = true) (i : StationId) : some i ∉ l :=
  fun m => by simpa using List.all_eq_true.1 h _ m

theorem witness_ReadyPoint_image :
    (∃ p places crc, loadImage (image 32875 []) = .accepted p places crc ∧ ∀ i, some i ∉ places) ∧
    ∃ p places crc i, loadImage (image 24321 [(556, 1)]) = .accepted p places crc ∧ some i ∈ places := by
  constructor
  · rw [loadImage, show Config.headerLength = 8 from rfl, show Config.bodyLength = 681 from rfl, image_crc]
    refine ⟨_, _, _, (if_neg (by decide +kernel)).trans (if_neg (by decide +kernel)), ?_⟩
    rw [image_body]
    exact none_bound _ (by decide +kernel)
  · rw [loadImage, show Config.headerLength = 8 from rfl, show Config.bodyLength = 681 from rfl, image_bound_crc]
    refine ⟨_, _, _, ⟨0xFF, 0xFFFFFFFFFF⟩, (if_neg (by decide +kernel)).trans (if_neg (by decide +kernel)), ?_⟩
    exact List.mem_map.2 ⟨0, by decide, by rw [image_bound_body]; decide +kernel⟩

theorem witness_FinishedSaveLoadsBack : saving.memoryOk = true ∧ saving.cmc.save = .writing ∧
    saving.cmc.snapshot = some shot ∧ shot.bindings.length = 19 ∧ shot.params.ok = true := by decide +kernel

theorem witness_DamagedSaveIsReported : saving.memoryOk = true ∧ saving.cmc.save = .writing ∧
    saving.cmc.snapshot = some shot ∧ shot.bindings.length = 19 ∧ 688 < 689 ∧
    byteAt shot.image 688 + 1 ≠ byteAt shot.image 688 ∧ byteAt shot.image 0 + 1 ≠ byteAt shot.image 0 := by
  decide +kernel

theorem witness_ConfigSaveTakesSnapshot : plant.linkIdle = true ∧ plant.cmc.save = .idle ∧
    saving.linkIdle = true ∧ saving.cmc.save ≠ .idle := by decide +kernel

/-! ## Witnesses: the clock -/

theorem witness_SecondTickAdvancesTheClock : on.clock.time = none ∧ on.clock.phase < 5 ∧
    on.clock.late = [] ∧ plant.clock.late = [] ∧
    5 ≤ { on with clock := { on.clock with phase := 5 } }.clock.phase ∧ plant.clock.time = some noon ∧
    noon.advance = some ⟨2026, 200, 43201⟩ ∧ noon.valid = true ∧
    (Time.mk 2026 200 43199).advance = some noon ∧ noon.second % 1800 = 0 ∧
    (Time.mk 2026 365 86399).advance = some ⟨2027, 1, 0⟩ ∧
    (Time.mk 2099 365 86399).valid = true ∧ (Time.mk 2099 365 86399).advance = none := by decide +kernel

/-- A minute at the limits: its rundown is delivered, and one waits for the LSC. -/
theorem witness_SecondTick_rundown :
    ((withEpisode .firing).modDau .l1 fun d => { d with used := 3599 }).dauRundown .l1
      (.minute ⟨2026, 200, 719⟩ false) = some .allowance ∧
    ((plant.deliverLimit .l1 (some .allowance)).line .l1).lsc.limitDue = some .allowance ∧
    (Pass.mk plant plant.taken).taken = plant.taken ∧
    (plant.line .l1).lsc.state ≠ .firing := by decide +kernel

theorem witness_ClockSetStoresTheTime : on.linkIdle = true ∧ on.clock.time = none ∧ on.allIdle = true ∧
    (lineIn .firing).linkIdle = true ∧ (lineIn .firing).allIdle = false ∧
    (lineIn .firing).clock.time = some noon ∧ noon.year ≠ 2027 ∧ (Time.mk 2027 1 0).valid = true ∧
    (Time.mk 2026 366 0).valid = false ∧ (Time.mk 2099 365 86399).valid = true := by decide +kernel

theorem witness_ClockReadCarriesTheRecord : on.linkIdle = true ∧ on.clock.time = none ∧
    plant.linkIdle = true ∧ plant.clock.time = some noon := by decide +kernel

/-! ## Witnesses: the lines -/

/-- Line 1 without its restored allowance, and the plant without one station. -/
def unrestored : Block := plant.modDau .l1 fun d => { d with restored := false }
def without (n : Nat) : Block :=
  plant.modBus fun x => { x with stations := x.stations.filter fun e => e.number != n }

theorem witness_LineStart_entersWarmup : plant.linkIdle = true ∧ (plant.line .l1).lsc.state = .idle ∧
    plant.running = true ∧ plant.allowanceRestored .l1 = true ∧ plant.bound (.feeder .l1) = true ∧
    plant.bound (.furnace .l1) = true ∧ plant.bound (.dosing .l1) = true ∧
    plant.bound (.analyzerA .l1) = true := by decide +kernel

theorem witness_LineStart_saysWhy : (lineIn .rundown).linkIdle = true ∧
    ((lineIn .rundown).line .l1).lsc.state = .rundown ∧ on.running = false ∧
    (on.line .l1).lsc.state = .idle ∧ unrestored.linkIdle = true ∧ unrestored.running = true ∧
    unrestored.allowanceRestored .l1 = false ∧
    (without 1).bound (.feeder .l1) = false ∧ (without 1).allowanceRestored .l1 = true ∧
    (without 2).bound (.feeder .l1) = true ∧ (without 2).bound (.furnace .l1) = false ∧
    (without 4).bound (.furnace .l1) = true ∧ (without 4).bound (.dosing .l1) = false ∧
    (without 3).bound (.dosing .l1) = true ∧ (without 3).bound (.analyzerA .l1) = false ∧
    (without 3).bound (.analyzerB .l1) = false ∧ (without 3).linkIdle = true ∧
    (lineIn .hold).linkIdle = true ∧ ((lineIn .hold).line .l1).lsc.state = .hold := by decide +kernel

theorem witness_LineFeed_requestsFeed : (lineIn .warmup).linkIdle = true ∧ (lineIn .warmup).feedStop = false ∧
    ((lineIn .warmup).line .l1).lsc.state = .warmup ∧ (rundownBy .host).linkIdle = true ∧
    ((rundownBy .host).line .l1).lsc.state = .rundown ∧
    ((rundownBy .allowance).line .l1).dau.used < 3600 ∧
    ((rundownBy .episodeLimit).line .l1).dau.episode = none := by decide +kernel

theorem witness_LineFeed_saysWhy : plant.linkIdle = true ∧ (plant.line .l1).lsc.state = .idle ∧
    (stopped .warmup).linkIdle = true ∧ (stopped .warmup).feedStop = true ∧
    ((stopped .warmup).line .l1).lsc.state = .warmup ∧
    ((rundownBy .episodeLimit).modDau .l1 fun d => { d with episode := some episode }).linkIdle = true ∧
    ((rundownBy .allowance).modDau .l1 fun d => { d with used := 3600 }).linkIdle = true ∧
    ((rundownBy .allowance).line .l1).lsc.cause = .allowance ∧
    (lineIn .firing).linkIdle = true ∧ ((lineIn .firing).line .l1).lsc.state = .firing := by decide +kernel

theorem witness_LineStopByState : ∀ x : LineState, (lineIn x).linkIdle = true ∧
    ((lineIn x).line .l1).lsc.state = x := by
  intro x; cases x <;> decide +kernel

theorem witness_LineCeilingClampsAtOnce : (lineIn .firing).linkIdle = true ∧
    ((lineIn .firing).line .l1).lsc.state = .firing ∧
    ((lineIn .firing).line .l1).gfu.load ≤ ((lineIn .firing).line .l1).ccu.effective := by decide +kernel

/-- Other causes on line 1, or an IDLE line. -/
theorem witness_Declared_added : (plant.line .l1).dau.causes.declared = false ∧ plant.inService .l1 = false ∧
    ((plant.modDau .l1 fun d => { d with causes := ⟨true, false, false⟩ }).line .l1).dau.causes.isEmpty = false := by
  decide +kernel

theorem witness_DeclaredDeviationOpensAndCloses : (lineIn .firing).linkIdle = true ∧
    (lineIn .firing).inService .l1 = true ∧
    ((lineIn .firing).line .l1).dau.causes = ⟨false, false, false⟩ ∧
    ((lineIn .firing).line .l1).dau.episode = none ∧
    (withEpisode .hold).linkIdle = true ∧ ((withEpisode .hold).line .l1).dau.causes = ⟨false, false, true⟩ ∧
    ((withEpisode .hold).line .l1).dau.episode = some episode ∧
    ((withEpisode .hold).line .l1).dau.causes.declared = true ∧
    ((lineIn .firing).line .l1).dau.causes.declared = false := by decide +kernel

/-- DECLARED alone with no episode open, and DECLARED beside ANALYZER with one. -/
theorem witness_Declared_cleared :
    let b := (lineIn .idle).modDau .l1 fun d => { d with causes := ⟨false, false, true⟩ }
    let c := (withEpisode .hold).modDau .l1 fun d => { d with causes := ⟨true, false, true⟩ }
    b.linkIdle = true ∧ (b.line .l1).dau.causes = ⟨false, false, true⟩ ∧ (b.line .l1).dau.episode = none ∧
    c.linkIdle = true ∧ (c.line .l1).dau.causes = ⟨true, false, true⟩ ∧
    (c.line .l1).dau.episode = some episode := by decide +kernel

theorem witness_FeedStopInhibitsAndReleases : (lineIn .firing).feedStop = false ∧
    (lineIn .firing).inService .l1 = true ∧ (lineIn .firing).inService .l2 = false ∧
    (stopped .warmup).feedStop = true ∧ (stopped .warmup).linkIdle = true ∧
    ((stopped .warmup).line .l1).lsc.state = .warmup := by decide +kernel

/-- Line 1 in WARMUP with feed requested and its furnace confirmed hot. -/
def hot : Block :=
  (lineIn .warmup).modLsc .l1 fun x => { x with feedRequested := true, hot := true, confirm := 600 }

theorem witness_FiringEntry_conditions : (hot.line .l1).lsc.state = .warmup ∧
    ∀ c, hot.condHolds .l1 c = true := by
  refine ⟨by decide +kernel, ?_⟩
  intro c; cases c <;> decide +kernel

theorem witness_FiringEntry_unmet : ((lineIn .warmup).line .l1).lsc.state = .warmup ∧
    (lineIn .warmup).condHolds .l1 .temperature = false ∧ (plant.line .l1).lsc.state ≠ .warmup := by
  decide +kernel

/-- Line 1 in a state with a timer at its default limit. -/
def timed (x : LineState) (confirm hold burnout : Nat) : Block :=
  (lineIn x).modLsc .l1 fun l => { l with confirm := confirm, hold := hold, burnout := burnout }

theorem witness_HoldAndBurnoutEnds :
    (plant.lineParams .l1).confirmTime ≤ ((timed .hold 600 0 0).line .l1).lsc.confirm ∧
    ((timed .hold 600 0 0).line .l1).lsc.state = .hold ∧
    ((timed .hold 0 7200 0).line .l1).lsc.confirm < (plant.lineParams .l1).confirmTime ∧
    (plant.lineParams .l1).holdLimit ≤ ((timed .hold 0 7200 0).line .l1).lsc.hold ∧
    ((timed .hold 600 0 0).line .l1).lsc.hold < (plant.lineParams .l1).holdLimit ∧
    ((timed .rundown 0 0 14400).line .l1).lsc.state = .rundown ∧
    (plant.lineParams .l1).burnoutTime ≤ ((timed .rundown 0 0 14400).line .l1).lsc.burnout ∧
    ((timed .rundown 0 0 0).line .l1).lsc.burnout < (plant.lineParams .l1).burnoutTime := by decide +kernel

/-- The seconds after noon end no minute and bring no balance tick; the defaults of the timers' limits. -/
theorem witness_SecondTick_lines : noon.advance = some ⟨2026, 200, 43201⟩ ∧ 43201 % 60 ≠ 0 ∧ 43201 % 6 ≠ 0 ∧
    (hot.clock.late = [] ∧ (timed .hold 0 0 0).clock.late = []) ∧
    (hot.line .l1).lsc.limitDue = none ∧ (plant.line .l1).lsc.limitDue = none ∧
    plant.clock.time = some noon ∧ on.clock.time = none ∧ (plant.line .l1).gfu.phase = .none ∧
    (plant.lineParams .l1).confirmTime = 120 ∧ (plant.lineParams .l1).holdLimit = 1800 ∧
    (plant.lineParams .l1).burnoutTime = 5400 ∧ (hot.line .l1).lsc.hot = true ∧
    ((timed .hold 119 1799 0).line .l1).lsc.confirm + 1 = 120 ∧
    ((timed .hold 0 1799 0).line .l1).lsc.hold + 1 = 1800 ∧
    ((timed .hold 0 1798 0).line .l1).lsc.hold + 1 < 1800 ∧
    ((timed .rundown 0 0 5399).line .l1).lsc.burnout + 1 = 5400 ∧
    ((timed .rundown 0 0 5398).line .l1).lsc.burnout + 1 < 5400 := by decide +kernel

/-- Line 1 FIRING with a stroke due. -/
def due (p : Phase) (owed : Bool) (age : Nat) : Block :=
  (lineIn .firing).modGfu .l1 fun g => { g with acc := 360000, phase := p, owed := owed, age := age }

theorem witness_Strokes_start : ((due .none false 0).line .l1).lsc.state = .firing ∧
    360000 ≤ ((due .none false 0).line .l1).gfu.acc ∧ (due .none false 0).feedStop = false ∧
    ((due .extending false 0).line .l1).gfu.phase ≠ .none ∧
    ((due .extending false 0).line .l1).gfu.owed = false ∧
    ((due .retracting true 0).line .l1).gfu.owed = true ∧ (plant.line .l1).gfu.acc < 360000 := by
  decide +kernel

theorem witness_Strokes_timeOut : ((due .extending false 600).line .l1).gfu.phase ≠ .none ∧
    (plant.lineParams .l1).strokeTimeout ≤ ((due .extending false 600).line .l1).gfu.age ∧
    (due .extending false 600).inService .l1 = true ∧
    2 ≤ (((due .extending false 600).modGfu .l1 fun g => { g with faults := 2 }).line .l1).gfu.faults ∧
    ((due .extending false 600).line .l1).gfu.faults < 2 ∧
    ((due .extending false 0).line .l1).gfu.age < (plant.lineParams .l1).strokeTimeout := by decide +kernel

/-- A tick of an unset clock before the balance tick, and strokes at the boundaries of the tick's cases. -/
theorem witness_SecondTick_strokes : on.clock.time = none ∧ on.clock.phase < 5 ∧
    on.clock.late = [] ∧ (due .none false 0).clock.late = [] ∧
    strokeRate (plant.lineParams .l1) 0 9500 = 0 ∧
    ((due .none false 0).line .l1).gfu.load = 0 ∧ 360000 ≤ ((due .none false 0).line .l1).gfu.acc + 0 ∧
    (((due .none false 0).modGfu .l1 fun g => { g with acc := 359999 }).line .l1).gfu.acc + 0 < 360000 ∧
    (plant.lineParams .l1).strokeTimeout = 90 ∧
    min 600 (((due .extending false 88).line .l1).gfu.age + 1) < 90 ∧
    90 ≤ min 600 (((due .extending false 89).line .l1).gfu.age + 1) ∧
    ((due .extending false 88).line .l1).gfu.owed = false := by decide +kernel

/-! ## Witnesses: emission, deviation, balance -/

theorem witness_LhvEstimateStaysInRange : (st on).block.lhvOk = true ∧ (st on).block.loadOk = true ∧
    step (st on) = .next (st on) := ⟨by decide +kernel, by decide +kernel, rfl⟩

/-- A hand-over with acid values and running means. -/
def handed (so2 hcl : Option Nat) (m : RunningMean) : HandOver :=
  ⟨⟨2026, 200, 719⟩, ⟨if so2.isSome then .valid else .noData, so2, false⟩,
    ⟨if hcl.isSome then .valid else .noData, hcl, false⟩, .const m⟩

/-- Line 1 FIRING with a trim and an at-max count. -/
def dosed (trim atMax : Nat) : Block := (lineIn .firing).modCcu .l1 fun c => { c with trim := trim, atMax := atMax }

/-- Chapter 5.10: HCl 1300 at the limit 600 is the index 2166. The third at-max work lowers the reagent ceiling,
a demand of 0 releases it, and the means stand above 900 ‰, between, and below 800 ‰ of their limits. -/
theorem witness_MinutesAreJudgedAndFormTheDemand : (dosed 400 2).inService .l1 = true ∧
    plant.inService .l1 = false ∧ (handed (some 140) none ⟨5, some 10⟩).so2.cn = some 140 ∧
    (handed none (some 1300) ⟨5, some 10⟩).hcl.cn = some 1300 ∧
    (((dosed 0 0).minuteWork .l1 (handed none (some 1300) ⟨4, some 65535⟩)).line .l1).ccu.acidIndex = some 2166 ∧
    (((dosed 400 2).minuteWork .l1 (handed none none ⟨5, some 65535⟩)).line .l1).ccu.atMax = 3 ∧
    (((dosed 0 2).minuteWork .l1 (handed none none ⟨5, some 0⟩)).line .l1).ccu.demand <
      (plant.lineParams .l1).dMax * 900 / 1000 ∧
    (plant.lineParams .l1).dMax * 900 / 1000 ≤
      (((dosed 360 0).minuteWork .l1 (handed none none ⟨5, some 0⟩)).line .l1).ccu.demand ∧
    (((dosed 360 0).minuteWork .l1 (handed none none ⟨5, some 0⟩)).line .l1).ccu.atMax < 3 ∧
    ((dosed 0 0).line .l1).ccu.causes.analyzer = false ∧ ((dosed 0 0).line .l1).ccu.guardStepping = false ∧
    (plant.cmc.params.quantity.get .co).hhLimit * 900 / 1000 < 65535 ∧
    0 < (plant.cmc.params.quantity.get .co).hhLimit * 800 / 1000 := by decide +kernel

/-- A VALID minute on each basis, with O2 above its reference and at it. -/
theorem witness_Minutes_normalized :
    (polMinute true false true (some 111) (some 400) (some 52) 110).status = .valid ∧
    (polMinute true false true (some 110) (some 0) (some 52) 110).status = .valid ∧
    (polMinute true false false (some 111) none (some 65000) 110).status = .valid ∧
    (polMinute true false false (some 110) none (some 52) 110).status = .valid ∧
    (polMinute false false false none none none 110).status ≠ .valid := by decide +kernel

/-- A counted minute of line 1 with every pollutant valid, and a table of 20 of them. -/
def slot : MinuteSlot :=
  ⟨.firing, .const ⟨.valid, some 10, false⟩, some 110, some 100, 1, false, false⟩

def tabled : Block :=
  (lineIn .firing).modEau .l1 fun x => { x with table := List.replicate 20 (some slot) ++ List.replicate 10 none }

/-- The same with fewer minutes, or with values above every limit. -/
def tabledBy (n cn : Nat) : Block :=
  (lineIn .firing).modEau .l1 fun x =>
    { x with table := List.replicate n (some { slot with pol := .const ⟨.valid, some cn, false⟩ })
             day := ⟨1, 0, .const ⟨70000, 1, 6⟩⟩ }

theorem witness_HalfHourCloseEntersRecord : 20 ≤ (countedSlots (tabled.line .l1).eau.table).length ∧
    (countedSlots (plant.line .l1).eau.table).length = 0 ∧
    (countedSlots ((tabledBy 1 10).line .l1).eau.table).length = 1 ∧
    (countedSlots ((tabledBy 19 10).line .l1).eau.table).length = 19 ∧
    20 ≤ (validCns (tabled.line .l1).eau.table .co).length ∧
    ¬20 ≤ (validCns ((tabledBy 19 10).line .l1).eau.table .co).length ∧
    (plant.cmc.params.quantity.get .co).hhLimit <
      roundHalfUp (validCns ((tabledBy 20 65535).line .l1).eau.table .co).sum 20 ∧
    1 ≤ ((tabledBy 1 10).line .l1).eau.day.complete ∧ 5 < (((tabledBy 1 10).line .l1).eau.day.pol.get .co).invalid ∧
    (plant.cmc.params.quantity.get .co).dailyLimit < 70000 ∧ (plant.line .l1).eau.day.complete = 0 := by
  decide +kernel

/-- Line 1 with analyzer B active and A fit, or not; and closes or hand-overs that wait at the CCU. -/
def onB (fit : Bool) : Block := plant.modLine .l1 fun x =>
  { x with eau := { x.eau with active := .b, roleA := ⟨true, fit, false⟩, roleB := ⟨true, true, false⟩ } }
def waits (x : Unmatched) : Block := plant.modCcu .l1 fun c => { c with unmatched := x }

theorem witness_MinuteClose : (onB true).running = true ∧ ((onB true).line .l1).eau.active = .b ∧
    ((onB true).line .l1).eau.roleA.fit = true ∧ ((onB false).line .l1).eau.roleA.fit = false ∧
    ((waits (.handOvers [handed none none ⟨0, none⟩])).line .l1).ccu.unmatched =
      .handOvers [handed none none ⟨0, none⟩] ∧
    ((waits (.closes [⟨2026, 200, 719⟩])).line .l1).ccu.unmatched = .closes [⟨2026, 200, 719⟩] ∧
    (plant.line .l1).ccu.unmatched = .closes [] := by decide +kernel

/-- Line 1 in FIRING, its ring holding `n` minutes of a mass in kg and 29.3 t/h. -/
def ringed (n mass : Nat) : Block := (lineIn .firing).modGfu .l1 fun g =>
  { g with ring := List.replicate n ⟨⟨2026, 200, 0⟩, true, some 293, mass⟩, steamSum := 293, steamCount := 1
           fedMass := mass }

/-- Chapter 3.8: nine minutes give FEW; with ten and 2000 kg the estimate moves to 9185; 10 kg a minute is LIGHT. -/
theorem test_estimator_from_a_cold_ring :
    (((ringed 8 200).gfuClose .l1 ⟨2026, 200, 1⟩).line .l1).gfu.estResult = .few ∧
    (((ringed 9 200).gfuClose .l1 ⟨2026, 200, 1⟩).line .l1).gfu.lhv = 9185 ∧
    (((ringed 9 200).gfuClose .l1 ⟨2026, 200, 1⟩).line .l1).gfu.estResult = .updated ∧
    (((ringed 30 10).gfuClose .l1 ⟨2026, 200, 1⟩).line .l1).gfu.estResult = .light := by decide +kernel

/-- Line 1 in FIRING whose stroke times out for the third time at the next second tick, before a balance tick. -/
def failing3 : Block :=
  { ((lineIn .firing).modCopy .l1 fun c => { c with state := .firing }).modLine .l1 fun x =>
      { x with gfu := { x.gfu with phase := .extending, age := 599, faults := 2, load := 500, ceiling := 1100 } } with
    clock := ⟨some ⟨2026, 200, 43205⟩, 5, 100, some noon, []⟩ }

/-- R134: with the cycle between the feed fault and its delivery to the BLU, the line is counted as FIRING and its
target is discarded; with the delivery first it is not counted. -/
theorem test_target_to_a_line_that_left_firing :
    (match exec (.secondTick [.gfu .l1, .balance]) (st failing3) with
      | .next t => decide ((t.block.line .l1).lsc.state = .rundown ∧ (t.block.blu.figures.get .l1).isSome = true ∧
          (t.block.line .l1).gfu.load = 0 ∧ (t.block.line .l1).gfu.target = 0 ∧
          (t.block.blu.copies.get .l1).state = .rundown)
      | _ => false) = true ∧
    (match exec (.secondTick [.gfu .l1, .blu .l1, .balance]) (st failing3) with
      | .next t => decide ((t.block.line .l1).lsc.state = .rundown ∧ t.block.blu.figures.get .l1 = none)
      | _ => false) = true := by decide +kernel

theorem witness_DeviationMinute : (withEpisode .firing).inService .l1 = true ∧
    ((withEpisode .firing).line .l1).dau.episode = some episode ∧
    ((withEpisode .firing).line .l1).dau.used ≤ 3600 ∧
    (((withEpisode .firing).modDau .l1 fun d => { d with used := 3599 }).line .l1).dau.used = 3599 ∧
    (((withEpisode .hold).modDau .l1 fun d => { d with used := 3239 }).line .l1).dau.used = 3239 ∧
    episode.minutes + 1 < (plant.lineParams .l1).episodeLimit ∧
    (plant.lineParams .l1).episodeLimit ≤ { episode with minutes := 239 }.minutes + 1 ∧
    (plant.line .l1).dau.episode = none ∧ (withEpisode .rundown).inService .l1 = false ∧
    ((lineIn .rundown).line .l1).lsc.state = .rundown := by decide +kernel

/-- Line 1 in a state with a rundown that waits for its LSC, and a minute at the allowance's limit. -/
def withLimit (x : LineState) : Block := (lineIn x).deliverLimit .l1 (some .allowance)
def atLimit (order : List Owner) : Block :=
  { (withEpisode .firing).modDau .l1 fun d => { d with used := 3599 } with
    order := order, clock := ⟨some ⟨2026, 200, 43259⟩, 5, 100, some noon, []⟩ }
def minuteJob : Job := ⟨.dau .l1, some (.minute ⟨2026, 200, 720⟩ false)⟩

theorem witness_Deviation_waits : ((withLimit .firing).line .l1).lsc.limitDue = some .allowance ∧
    (withLimit .firing).clock.late = [] ∧ (withLimit .hold).clock.late = [] ∧
    (withLimit .firing).inService .l1 = true ∧ (withLimit .hold).inService .l1 = true ∧
    (withLimit .firing).linkIdle = true ∧ (withLimit .firing).feedStop = false ∧
    (withLimit .rundown).inService .l1 = false ∧ Owner.limitLater .l1 ∉ (atLimit []).order ∧
    Owner.limitLater .l1 ∈ (atLimit [.limitLater .l1]).order ∧
    (((atLimit []).takeLimits.deliverAll [minuteJob]).line .l1).lsc.limitDue = some .allowance ∧
    ((atLimit []).takeLimits.deliverAll [minuteJob]).inService .l1 = true := by decide +kernel

/-- R108: a LINE STOP taken in the same instant before the rundown of the allowance gives the cause HOST, with the
limit reached set; with none the cause is ALLOWANCE. -/
theorem test_line_stop_before_the_rundown :
    (match exec (.secondTick [.limitLater .l1]) (st (atLimit [])) with
      | .next t => decide ((t.block.line .l1).lsc.state = .firing ∧
          (t.block.line .l1).dau.episode.map Episode.limit = some .allowance) &&
        (match exec (.lineStop 3 1) t with
          | .next u => decide ((u.block.line .l1).lsc.cause = .host ∧ (u.block.line .l1).lsc.limitDue = none)
          | _ => false) &&
        (match step t with
          | .next u => decide ((u.block.line .l1).lsc.cause = .allowance ∧ (u.block.line .l1).lsc.state = .rundown)
          | _ => false)
      | _ => false) = true := by decide +kernel

theorem witness_AllowanceRestoreWritesFigures : on.linkIdle = true ∧ on.clock.time = none ∧
    (lineIn .firing).linkIdle = true ∧ (lineIn .firing).clock.time = some noon ∧
    ((lineIn .firing).line .l1).lsc.state ≠ .idle ∧ (plant.line .l1).lsc.state = .idle ∧
    (BitVec.ofNat 16 2025).toNat ≠ noon.year ∧ (BitVec.ofNat 16 2026).toNat = noon.year := by decide +kernel

theorem witness_AllocationsSumToTheSteamPlaced : (caseLines.map FiringLine.line).Nodup ∧
    ∀ f ∈ caseLines, f.lo ≤ f.hi ∧ 1 ≤ f.weight := by decide +kernel

/-- 984 lies between the sums 720 and 1160, and the extra 264 takes L3 past its headroom; 750 has none leave. -/
theorem witness_Allocations_rounds :
    (caseLines.map FiringLine.lo).sum < 750 ∧ 984 < (caseLines.map FiringLine.hi).sum ∧
    (caseLines.filter fun f => decide (f.hi - f.lo ≤ 264 * f.weight / 100)) = [⟨.l3, 240, 280, 20, 400⟩] ∧
    (caseLines.filter fun f => decide (f.hi - f.lo ≤ 30 * f.weight / 100)) = [] ∧
    (caseLines.map FiringLine.weight).sum = 100 ∧
    (caseLines.map fun f => 31 * f.weight / 100).sum < 31 ∧
    caseLines.map (allocate caseLines 751) = [253, 252, 246] := by decide +kernel

theorem witness_BalanceLawHolds : (∀ l, 1 ≤ ((st on).block.lineParams l).weight) ∧ (st on).block.balanceLaw ∧
    step (st on) = .next (st on) := by
  refine ⟨by intro l; cases l <;> decide +kernel, ?_, rfl⟩
  unfold Block.balanceLaw
  decide +kernel

/-! ## Witnesses: turbines and the schedule -/

/-- Turbine 1 in a state, its station bound. -/
def turbineIn (x : TurbineState) : Block := plant.modTurbine .t1 fun t => { t with state := x }

theorem witness_TurbineStart : (turbineIn .offline).linkIdle = true ∧
    ((turbineIn .offline).turbine .t1).state = .offline ∧ (turbineIn .offline).healthy (.turbine .t1) = true ∧
    ((turbineIn .offline).turbine .t1).tripInput = false ∧ (without 6).bound (.turbine .t1) = false ∧
    (without 6).linkIdle = true ∧ ((turbineIn .tripped).turbine .t1).state = .tripped := by decide +kernel

/-- Turbine 1's station lost. -/
def lostStation : Block :=
  plant.modBus fun x => { x with stations := x.stations.map fun e =>
    if e.number = 6 then { e with lost := true } else e }

theorem witness_TurbineStart_refused : lostStation.linkIdle = true ∧
    lostStation.bound (.turbine .t1) = true ∧ lostStation.healthy (.turbine .t1) = false ∧
    ((plant.modTurbine .t1 fun t => { t with tripInput := true }).turbine .t1).tripInput = true ∧
    (plant.modTurbine .t1 fun t => { t with tripInput := true }).healthy (.turbine .t1) = true := by
  decide +kernel

theorem witness_TurbineStop : ∀ x : TurbineState, (turbineIn x).linkIdle = true ∧
    ((turbineIn x).turbine .t1).state = x := by
  intro x; cases x <;> decide +kernel

theorem witness_TripResetNeedsALowSpeed : ((turbineIn .tripped).turbine .t1).state = .tripped ∧
    ((turbineIn .tripped).turbine .t1).tripInput = false ∧
    ((turbineIn .tripped).turbine .t1).speed.status = .stopped ∧ (turbineIn .tripped).linkIdle = true := by
  decide +kernel

/-- Turbine 1 in RUNUP with a qualification count, a runup timer, and its breaker closed. -/
def runup (q r : Nat) : Block :=
  (turbineIn .runup).modTurbine .t1 fun t =>
    { t with qual := q, runup := r, station := { t.station with breaker := .closed } }

theorem witness_RunupEnds : ((runup 10 0).turbine .t1).state = .runup ∧ ((runup 10 0).turbine .t1).qual = 10 ∧
    ((runup 10 0).turbine .t1).station.breaker = .closed ∧ ((runup 9 0).turbine .t1).qual < 10 ∧
    (plant.turbineParams .t1).runupTimeout ≤ ((runup 0 3600).turbine .t1).runup ∧
    ((runup 0 0).turbine .t1).runup < (plant.turbineParams .t1).runupTimeout := by decide +kernel

/-- Turbine 1 in RUNUP at a VALID speed. Chapter 8: the band of 3000 rpm is 2970 to 3030. -/
def atSpeed (q r rpm : Nat) : Block :=
  (runup q r).modTurbine .t1 fun t => { t with speed := { t.speed with status := .valid, rpm := rpm } }

theorem witness_SecondTick_runup : ((atSpeed 9 0 2970).turbine .t1).speed.status = .valid ∧
    (plant.turbineParams .t1).ratedSpeed * 99 ≤ 2970 * 100 ∧ 3030 * 100 ≤ (plant.turbineParams .t1).ratedSpeed * 101 ∧
    ¬(plant.turbineParams .t1).ratedSpeed * 99 ≤ 2969 * 100 ∧ ((atSpeed 9 0 2970).turbine .t1).state = .runup ∧
    ((atSpeed 9 0 2970).turbine .t1).station.breaker = .closed ∧ 9 ≤ ((atSpeed 9 0 2970).turbine .t1).qual ∧
    ((atSpeed 8 0 2970).turbine .t1).qual < 9 ∧ (plant.turbineParams .t1).runupTimeout = 1800 ∧
    1800 ≤ ((atSpeed 0 1799 0).turbine .t1).runup + 1 ∧ ((atSpeed 0 1798 0).turbine .t1).runup + 1 < 1800 ∧
    (plant.turbine .t1).state ≠ .runup := by decide +kernel

theorem witness_TripAssertionTrips : ((turbineIn .online).turbine .t1).state = .online ∧
    ((turbineIn .online).turbine .t1).tripInput = false ∧ (plant.turbine .t1).state = .offline ∧
    ((plant.modTurbine .t1 fun t => { t with tripInput := true }).turbine .t1).tripInput = true := by
  decide +kernel

/-- Turbine 1 ONLINE with a period timed in a range. -/
def timing (r : SpeedRange) (n : Nat) : Block :=
  (turbineIn .online).modTurbine .t1 fun t =>
    { t with speed := { t.speed with range := r, timing := true, count := 0, periods := 2, overCount := n } }

/-- The same with no period counted. -/
def first (r : SpeedRange) : Block :=
  (timing r 0).modTurbine .t1 fun t => { t with speed := { t.speed with periods := 0 } }

/-- Chapter 8.12: in FAST, count 302 gives 3311 rpm, above the overspeed; count 305 gives 3278. In SLOW the
shortest period that keeps the range is 4096 cycles. -/
theorem witness_SpeedIsMeasured : ((plant.turbine .t1).speed.timing = false) ∧
    ((timing .fast 1).turbine .t1).speed.timing = true ∧ 1 ≤ ((timing .fast 1).turbine .t1).speed.periods ∧
    60 * 1000000 / (302 * (plant.turbineParams .t1).teeth) = 3311 ∧
    (plant.turbineParams .t1).overspeed < 3311 ∧
    60 * 1000000 / (305 * (plant.turbineParams .t1).teeth) ≤ (plant.turbineParams .t1).overspeed ∧
    60 * 62500 / (4096 * (plant.turbineParams .t1).teeth) ≤ 65535 ∧
    ((timing .fast 1).turbine .t1).state = .online ∧ 1 ≤ ((timing .fast 1).turbine .t1).speed.overCount ∧
    ((timing .slow 0).turbine .t1).speed.range = .slow ∧
    60 * 62500 / (4095 * (plant.turbineParams .t1).teeth) ≤ 65535 ∧
    ((first .slow).turbine .t1).speed.periods = 0 ∧ ((first .fast).turbine .t1).speed.range = .fast ∧
    (plant.turbine .t1).state = .offline := by decide +kernel

/-- A full queue of 16 entries, one an hour. -/
def fullQueue : List SchedEntry :=
  (List.range 16).map fun k => ⟨⟨2026, 201, 60 * k⟩, 100, 100⟩

def scheduled : Block := plant.modTdu fun t => { t with queue := fullQueue }

theorem witness_ScheduleAddKeepsOrder : plant.linkIdle = true ∧ (EffTime.mk 2026 201 60).valid = true ∧
    (EffTime.mk 2026 201 1440).valid = false ∧ plant.tdu.queue.length < 16 ∧
    scheduled.linkIdle = true ∧ 16 ≤ scheduled.tdu.queue.length ∧ schedOk scheduled.tdu.queue = true ∧
    (∃ f ∈ scheduled.tdu.queue, f.time = ⟨2026, 201, 60⟩) ∧
    (∀ f ∈ scheduled.tdu.queue, f.time ≠ ⟨2026, 201, 61⟩) ∧ (EffTime.mk 2026 201 61).valid = true := by
  decide +kernel

theorem witness_Schedule_steps : schedOk (st scheduled).block.tdu.queue = true ∧
    (st scheduled).block.tdu.queue.length ≤ 16 ∧ step (st scheduled) = .next (st scheduled) :=
  ⟨by decide +kernel, by decide +kernel, rfl⟩

/-- The schedule of 16 entries, one an hour, at 02:00 of its day: three are due. -/
theorem witness_CycleMovesWithinLimits :
    let x : Time := ⟨2026, 201, 7200⟩
    let gone := fullQueue.filter fun e => !(EffTime.mk x.year x.day (x.second / 60)).before e.time
    on.clock.time = none ∧ plant.clock.time = some noon ∧ schedOk fullQueue = true ∧ gone.length = 3 ∧
    (∃ e ∈ gone, ∀ f ∈ gone, f = e ∨ f.time.before e.time = true) := by decide +kernel

/-- Line 1 counted as firing, a header pressure, and a commitment of 30 MW with the turbines OFFLINE. -/
def cycling (pressure : Option Nat) : Block :=
  (((lineIn .firing).modCopy .l1 fun c => { c with state := .firing }).modBlu fun x =>
    { x with pressure := pressure }).modTdu fun x => { x with commitment := ⟨300, 0, none, none, 0⟩ }
def noBypass : Block :=
  (cycling none).modCmc fun c => { c with params := { c.params with plant := { c.params.plant with bypassMax := 0 } } }

theorem witness_Cycle_balance :
    let p := plant.cmc.params.plant
    (cycling none).blu.pressure = none ∧ ((cycling (some 4005)).blu.copies.get .l1).state = .firing ∧
    (cycling (some 4005)).blu.pressure = some 4005 ∧ 4005 ≤ p.pSet + p.deadBand ∧ p.pSet ≤ 3995 + p.deadBand ∧
    3994 + p.deadBand < p.pSet ∧ p.pSet + p.deadBand < 4006 ∧ (plant.blu.copies.get .l1).state ≠ .firing ∧
    ((cycling none).line .l1).lsc.state = .firing ∧ (cycling none).blu.short = false ∧
    (cycling none).balanceCycle.blu.short = true ∧ (cycling none).balanceCycle.blu.saturated = false ∧
    noBypass.blu.saturated = false ∧ noBypass.balanceCycle.blu.saturated = true ∧
    plant.balanceCycle.blu.short = false := by decide +kernel

/-- R125: a deficit above 0 and one of 0 or less. -/
theorem witness_Cycle_deficit :
    let deficit (b : Block) : Int := b.blu.demand - (((b.blu.figures.get .l1).map LineFigures.hi).getD 0 + b.blu.uncontrolled)
    deficit plant.balanceCycle = (20 : Nat) ∧ deficit (cycling none).balanceCycle ≤ 0 := by decide +kernel

theorem witness_ScheduleCancelAndList : scheduled.linkIdle = true ∧ (EffTime.mk 2026 201 60).valid = true ∧
    (EffTime.mk 2026 0 60).valid = false := by decide +kernel

/-! ## Witnesses: the station bus -/

/-- The bus with a transaction in flight. -/
def flying (x : BusState) (d : Bool) (w : Transaction) : Block :=
  plant.modBus fun u => { u with state := x, driver := d, txn := some w }

/-- A POLL of a station, and a frame of another command. -/
def poll (n : Nat) (k : StationKind) (answer : List BusChar) : Transaction :=
  ⟨.poll, n, n, some k, true, [], stationFrame n .poll [], 1, 5, answer⟩

def other (c : FrameCommand) (bits : List Bool) (answer : List BusChar) : Transaction :=
  ⟨c, 0, 0, none, false, bits, stationFrame 0 c [], 1, 5, answer⟩

/-- Line 1 FIRING before a minute close, its feeder's EXTENDED reply received but for the last character. -/
def nearClose : Block :=
  let b := (flying .receiving false (poll 1 .feeder ((stationFrame 0x81 .poll [2, 0]).dropLast))).modLine .l1 fun x =>
    { x with lsc := { x.lsc with state := .firing }, gfu := { x.gfu with phase := .extending } }
  { b with clock := ⟨some ⟨2026, 200, 43259⟩, 5, 100, some noon, []⟩ }
def lastChar : BusChar := (stationFrame 0x81 .poll [2, 0]).getLastD ⟨0, false, false⟩

/-- The tick with closes put off, the command after it, and the idle step that takes what waits. -/
def closeAround (o : List Owner) (c : Instr) : Block :=
  match step ⟨[.secondTick o, c], nearClose⟩ with
  | .next s => match step s with
    | .next t => match step t with
      | .next u => u.block
      | _ => nearClose
    | _ => nearClose
  | _ => nearClose

/-- Closes that were put off wait, beside a FIRING line and an idle link. -/
def withLate : Block := { nearClose with order := [.eauLater .l1, .dauLater .l2] }.secondTick
theorem witness_closes_put_off : withLate.clock.late ≠ [] ∧ withLate.linkIdle = true ∧
    withLate.clock.time = some ⟨2026, 200, 43260⟩ ∧
    withLate.order.contains (.eauLater .l1) = true ∧ withLate.order.contains (.ccuLater .l1) = false := by decide +kernel

/-- Line 2 IDLE beside closes that wait, for ALLOWANCE RESTORE. -/
theorem witness_AllowanceRestore_late : withLate.clock.late ≠ [] ∧ withLate.linkIdle = true ∧
    (withLate.line .l2).lsc.state = .idle ∧ withLate.clock.time = some ⟨2026, 200, 43260⟩ ∧
    plant.clock.late = [] := by decide +kernel

/-- R112: a CLOCK SET's year change reaches the DAU with every line IDLE, also where the order puts its closes off. -/
theorem test_year_change_is_not_put_off :
    (match exec (.clockSet 1 2025 200 43200) (st { plant with order := [.dauLater .l1, .eauLater .l1] }) with
      | .next t => decide ((t.block.line .l1).dau.restored = false ∧ t.block.clock.late ≠ [] ∧
          t.block.clock.late.all (fun j => j.owner == .eau .l1) = true)
      | _ => false) = true := by decide +kernel

/-- The last second of a year, a rollover the DAU of line 1 puts off, and an ALLOWANCE RESTORE for the new year. -/
def newYear : State := ⟨[.secondTick [.dauLater .l1], .allowanceRestore 1 1 2027 100 1 2 3 4 5],
  { plant with clock := ⟨some ⟨2026, 365, 86399⟩, 5, 100, some noon, []⟩ }⟩
/-- R111, R113: an ALLOWANCE RESTORE after a rollover the DAU has put off keeps the figures it writes. -/
theorem test_restore_after_a_rollover :
    (match step newYear with
      | .next s => match step s with
        | .next t => decide (s.block.clock.late ≠ [] ∧ t.block.clock.late = [] ∧ (t.block.line .l1).dau.used = 100 ∧
            (t.block.line .l1).dau.restoredYear = some 2027 ∧ (t.block.line .l1).eau.tallies = ⟨1, 2, 3, 4, 5⟩)
        | _ => false
      | _ => false) = true := by decide +kernel

/-- The mass in the ring's newest slot, in the GFU's open minute, in the table's slot and in the EAU's open minute. -/
def massOf (b : Block) : List Nat :=
  let x := b.line .l1
  [((x.gfu.ring.getLast?.map RingSlot.mass).getD 0), x.gfu.fedMass,
   (((x.eau.table.getD 0 none).map MinuteSlot.mass).getD 0), x.eau.mass]

/-- R63: a stroke near a close is found in one minute of both, or in different minutes of the two. -/
theorem test_stroke_near_a_close :
    massOf (closeAround [] (.stationCharReceived lastChar)) = [0, 500, 0, 500] ∧
    massOf (closeAround [.gfuCloseLater .l1] (.stationCharReceived lastChar)) = [500, 0, 0, 500] ∧
    massOf (closeAround [.eauLater .l1] (.stationCharReceived lastChar)) = [0, 500, 500, 0] := by decide +kernel

/-- The flag of the minute in the table, and the minutes the open episode counts. -/
def flagAndCount (b : Block) : Option Bool × Option Nat :=
  (((b.line .l1).eau.table.getD 0 none).map MinuteSlot.deviation, (b.line .l1).dau.episode.map Episode.minutes)

/-- R67: a cause that changes between the EAU's and the DAU's taking of one close. -/
theorem test_cause_between_two_takings :
    flagAndCount (closeAround [] (.lineDeclare 1 1 0)) = (some false, some 0) ∧
    flagAndCount (closeAround [.dauLater .l1] (.lineDeclare 1 1 0)) = (some false, some 1) ∧
    flagAndCount (closeAround [.eauLater .l1] (.lineDeclare 1 1 0)) = (some true, some 0) := by decide +kernel

/-- The bus free with a POLL due, with a frame queued, and with a walk. -/
def pollDue : Block :=
  plant.modBus fun x => { x with stations := x.stations.map fun e => { e with due := 50 } }
def queued : Block := plant.modBus fun x => { x with queue := [⟨false, 3⟩] }
def walking : Block :=
  plant.modWalk fun k => { k with active := true, step := .rollCall, stack := [[true], [false]] }

/-- The walk's candidate of number 9, and the walk at a step with it. -/
def nine (rejoin : Bool) (attempts : Nat) : Candidate := ⟨⟨4, 9⟩, 9, rejoin, attempts, [true]⟩
def walkAt (x : WalkStep) (queue : List Unanswered) (c : Candidate) : Block :=
  (plant.modBus fun u => { u with queue := queue }).modWalk fun k =>
    { k with active := true, step := x, candidate := some c, stack := [[false]] }

theorem witness_ArbiterGrantsInOrder : queued.bus.state = .free ∧ queued.bus.queue = [⟨false, 3⟩] ∧
    pollDue.bus.state = .free ∧ pollDue.bus.queue = [] ∧ pollDue.bus.entriesOk = true ∧
    (∃ e ∈ pollDue.bus.stations, e.due ≤ pollDue.clock.uptime) ∧
    walking.bus.state = .free ∧ walking.bus.queue = [] ∧
    (∀ e ∈ walking.bus.stations, walking.clock.uptime < e.due) ∧ walking.bus.walk.active = true ∧
    walking.bus.walk.step = .rollCall ∧ walking.bus.walk.stack = [[true], [false]] ∧
    plant.bus.walk.active = false ∧ (flying .sending true (other .clear [] [])).bus.state ≠ .free := by
  decide +kernel

theorem witness_Arbiter_assign : (walkAt .assign [] (nine false 0)).bus.state = .free ∧
    (walkAt .assign [] (nine false 0)).bus.queue = [] ∧ (walkAt .assign [] (nine false 0)).bus.walk.active = true ∧
    (∀ e ∈ (walkAt .assign [] (nine false 0)).bus.stations, plant.clock.uptime < e.due) ∧
    (walkAt .assign [] (nine false 0)).bus.walk.step = .assign ∧
    (walkAt .assign [] (nine false 0)).bus.walk.candidate = some (nine false 0) := by decide +kernel

/-- The bytes of a STATION UNBIND of line 1's dosing station. -/
def unbindFrame : List Byte := frameBytes (byte ReqKind.stationUnbind.code) 7 [byte (roleCode (some (.dosing .l1)))]

/-- A walk in WAIT_ROOM whose queue holds `n` frames, with that request but for its last byte in assembly. -/
def waiting (n : Nat) : Block :=
  (walkAt .waitRoom (List.replicate n ⟨true, 4⟩) (nine false 2)).modLink fun k =>
    { k with assembly := unbindFrame.dropLast, assembler := .crc }

/-- The last byte of that request. -/
def lastOfUnbind : LinkEvent := .byte (unbindFrame.getLastD 0)

/-- A frame leaves a queue, and a request taken at that moment fills its place or none is taken. -/
theorem witness_Arbiter_waitRoom :
    (waiting 8).bus.state = .free ∧ (waiting 8).bus.queue = ⟨true, 4⟩ :: List.replicate 7 ⟨true, 4⟩ ∧
    (waiting 8).grant.bus.walk.step = .waitRoom ∧ (waiting 8).grant.bus.queue.length < 8 ∧
    (waiting 8).grant.bus.walk.candidate = some (nine false 2) ∧ (waiting 8).grant.bus.walk.stack ≠ [] ∧
    8 ≤ ([lastOfUnbind].foldl Block.linkEvent (waiting 8).grant).bus.queue.length ∧
    ((waiting 8).modWalk fun k => { k with stack := [] }).grant.bus.walk.stack = [] ∧
    plant.bus.queue = [] := by decide +kernel

/-- R180: with nothing taken at the moment of the grant the FORGET is placed in it; a request taken at it that places
a CLEAR fills the freed place, and the walk waits for the next frame. -/
theorem test_waitRoom_either_first :
    (match exec (.busGrant []) ⟨[], waiting 8⟩ with
      | .next t => decide (t.block.bus.walk.step = .rollCall ∧ t.block.bus.queue.length = 8 ∧
          t.block.bus.queue.getLast? = some ⟨true, 9⟩)
      | _ => false) = true ∧
    (match exec (.busGrant [lastOfUnbind]) ⟨[], waiting 8⟩ with
      | .next t => decide (t.block.bus.walk.step = .waitRoom ∧ t.block.bus.queue.length = 8 ∧
          t.block.bus.queue.getLast? = some ⟨false, 4⟩)
      | _ => false) = true := by decide +kernel

theorem witness_UnansweredFrameStages :
    let b := flying .sending true (other .clear [] [])
    b.bus.state = .sending ∧ b.bus.driver = true ∧
    b.bus.txn = some (other .clear [] []) ∧ (other .clear [] []).command = .clear ∧
    let c := flying .sending true (poll 1 .feeder [])
    c.bus.state = .sending ∧ c.bus.driver = true ∧
    c.bus.txn = some (poll 1 .feeder []) ∧ (poll 1 .feeder []).command = .poll ∧ (poll 1 .feeder []).answer = [] ∧
    byte 0x81 = byte (0x80 + (poll 1 .feeder []).expected) := by decide +kernel

theorem witness_Characters_counted : plant.bus.driver = false ∧ plant.bus.state = .free ∧
    (flying .sending true (other .clear [] [])).bus.driver = true ∧
    (flying .settling false (poll 1 .feeder [])).bus.state = .settling := by decide +kernel

theorem witness_Characters_decide :
    let b := flying .waiting false (poll 1 .feeder [])
    let c : BusChar := ⟨0x82, true, false⟩
    b.bus.state = .waiting ∧ b.bus.driver = false ∧ b.bus.txn = some (poll 1 .feeder []) ∧
    (poll 1 .feeder []).command = .poll ∧ (poll 1 .feeder []).answer = [] ∧
    (poll 1 .feeder []).entryHeld = true ∧ b.station 1 = some (member 1 1 (some (.feeder .l1))) ∧
    (member 1 1 none).lost = false ∧ (member 1 1 none).misses < 2 ∧ c.data ≠ byte (0x80 + 1) := by
  decide +kernel

/-- A dosing station bound to no role. -/
def spare : Block :=
  (flying .waiting false (poll 9 .dosing [])).modBus fun x => { x with stations := [member 9 4 none] }

theorem witness_WholePollReplyIsGood : spare.bus.state = .waiting ∧ spare.bus.driver = false ∧
    spare.bus.txn = some (poll 9 .dosing []) ∧ (poll 9 .dosing []).command = .poll ∧
    (poll 9 .dosing []).answer = [] ∧ (poll 9 .dosing []).entryHeld = true ∧
    (poll 9 .dosing []).kind = some .dosing ∧ (poll 9 .dosing []).expected ≤ 24 ∧
    spare.station 9 = some (member 9 4 none) ∧ (member 9 4 none).number = 9 ∧
    (member 9 4 none).lost = false ∧ (member 9 4 none).role = none ∧ replyFits .dosing [1, 0, 0] = true ∧
    (spare.modBus fun x => { x with stations := [{ member 9 4 (some (.dosing .l1)) with lost := true }] }).station 9
      = some { member 9 4 (some (.dosing .l1)) with lost := true } := by decide +kernel

/-- Line 1 with a stroke in a phase, its analyzers as given, and the codes of replies at their boundaries. -/
def analyzed (sel : Selection) (x y : AnalyzerRole) : Block :=
  plant.modEau .l1 fun e => { e with active := sel, roleA := x, roleB := y }

theorem witness_Poll_effects : (byteAt [2, 0] 1).toNat = 0 ∧ (byteAt [2, 0] 0).toNat = 2 ∧ (byteAt [2, 1] 1).toNat = 1 ∧
    ((due .extending false 0).line .l1).gfu.phase = .extending ∧
    ((due .retracting true 0).line .l1).gfu.owed = true ∧ ((due .retracting true 0).line .l1).lsc.state = .firing ∧
    (due .retracting true 0).feedStop = false ∧ ((due .retracting false 0).line .l1).gfu.owed = false ∧
    (plant.lineParams .l1).tMin = 8500 ∧ field [0x34, 0x21, 0, 0, 0] 0 2 = 8500 ∧ field [0x33, 0x21, 0, 0, 0] 0 2 < 8500 ∧
    (byteAt [0x34, 0x21, 0, 0, 1] 4).toNat ≠ 0 ∧ ((lineIn .firing).line .l1).lsc.state = .firing ∧
    ((analyzed .a ⟨true, true, false⟩ ⟨true, true, false⟩).line .l1).eau.active = selOf true ∧
    ((analyzed .none ⟨true, false, false⟩ ⟨true, false, false⟩).line .l1).eau.active = .none ∧
    ((analyzed .a ⟨true, true, false⟩ ⟨true, true, false⟩).line .l1).eau.active ≠ selOf false ∧
    plant.running = true ∧ on.running = false ∧ (byteAt (List.replicate 21 2) 17).toNat = 2 ∧
    (byteAt (List.replicate 21 1) 17).toNat < 2 ∧ (plant.line .l1).ccu.dosingLost = false := by decide +kernel

/-- The header station with two failed polls. -/
def failing (x : BusState) (answer : List BusChar) : Block :=
  (flying x false (poll 5 .header answer)).modBus fun u =>
    { u with stations := [{ member 5 5 (some .header) with misses := 2 }] }

theorem witness_ThirdMissLosesTheStation :
    (failing .waiting []).bus.txn = some (poll 5 .header []) ∧ (failing .waiting []).bus.state = .waiting ∧
    (failing .waiting []).station 5 = some { member 5 5 (some .header) with misses := 2 } ∧
    (failing .receiving [⟨0x85, true, false⟩]).bus.state = .receiving ∧
    (poll 5 .header []).command = .poll ∧ (poll 5 .header []).entryHeld = true ∧
    (member 5 5 (some .header)).number = 5 ∧ (member 5 5 (some .header)).lost = false := by decide +kernel

/-- The states in which the losses of line 1's stations do most. -/
theorem witness_Losses : (lineIn .hold).inService .l1 = true ∧ plant.inService .l1 = false ∧
    ((lineIn .firing).line .l1).lsc.state = .firing ∧ (plant.line .l1).ccu.dosingLost = false ∧
    (plant.line .l1).ccu.dosingFault = false ∧
    ((analyzed .a ⟨true, true, false⟩ ⟨true, true, false⟩).line .l1).eau.roleB.available = true ∧
    ((analyzed .b ⟨true, false, false⟩ ⟨true, true, false⟩).line .l1).eau.roleA.available = false ∧
    ((analyzed .b ⟨true, true, false⟩ ⟨true, true, false⟩).line .l1).eau.roleA.available = true ∧
    ((analyzed .a ⟨true, true, false⟩ ⟨false, false, false⟩).line .l1).eau.roleB.available = false := by
  decide +kernel

/-- A ROLL CALL in flight. -/
def calling (stack : List (List Bool)) (answer : List BusChar) : Block :=
  (flying .waiting false (other .rollCall [true] answer)).modWalk fun k =>
    { k with active := true, step := .rollCall, stack := stack }

theorem witness_RollCallWindowEndsTheBranch :
    (calling [[false]] []).bus.state = .waiting ∧
    (calling [[false]] []).bus.txn = some (other .rollCall [true] []) ∧
    (calling [[false]] []).bus.walk.stack ≠ [] ∧ (calling [] []).bus.walk.stack = [] ∧
    (other .rollCall [true] [⟨0, true, true⟩]).answer ≠ [] ∧
    (other .rollCall [true] []).bits.length < 48 ∧
    48 ≤ (other .rollCall (List.replicate 48 true) []).bits.length ∧
    (calling [[false]] []).bus.walk.dropped < 255 ∧ (calling [[false]] []).bus.walk.duplicates < 255 := by
  decide +kernel

/-- A whole answer names a station; a lone character is none. -/
theorem witness_RollCall_answers : (calling [] []).bus.entriesOk = true ∧ kindOf 8 = none ∧ kindOf 1 ≠ none ∧
    (member 1 1 none).ident = ⟨1, 1⟩ ∧ (∀ e ∈ (calling [] []).bus.stations, e.ident ≠ ⟨4, 9⟩) ∧
    (∀ e ∈ (calling [] []).bus.stations, e.number ≠ 7) ∧
    (∀ m, m < 7 → 1 ≤ m → ∃ e ∈ (calling [] []).bus.stations, e.number = m) ∧
    (∀ m, m < 25 → 1 ≤ m → ∃ e ∈ (List.range 25).map (fun n => member n 1 none), e.number = m) ∧
    (stationFrame 255 .rollCall (encIdent ⟨4, 9⟩)).length = 11 := by decide +kernel

theorem witness_RollCall_garbled (i : StationId) :
    [BusChar.mk 0 true true] ≠ stationFrame 255 .rollCall (encIdent i) := by
  simp [stationFrame]

/-- An ASSIGN in flight to number 9. -/
def assigning (c : Candidate) (queue : List Unanswered) : Block :=
  (walkAt .assign queue c).modBus fun u =>
    { u with state := .waiting, driver := false
             txn := some ⟨.assign, 0, 9, none, false, [], stationFrame 0 .assign [], 1, 5, []⟩ }

theorem witness_Assign_outcomes : (assigning (nine false 1) []).bus.state = .waiting ∧
    (assigning (nine false 1) []).bus.walk.candidate = some (nine false 1) ∧
    (assigning (nine false 1) []).bus.walk.stack ≠ [] ∧ (assigning (nine false 1) []).bus.walk.dropped < 255 ∧
    (nine false 1).attempts < 2 ∧ 2 ≤ (nine true 2).attempts ∧ (nine true 2).rejoin = true ∧
    (assigning (nine false 2) []).bus.queue.length < 8 ∧
    8 ≤ (assigning (nine false 2) (List.replicate 8 ⟨true, 4⟩)).bus.queue.length ∧
    (assigning (nine false 1) []).bus.tablesOk = true ∧ (assigning (nine false 1) []).bus.driver = false ∧
    (assigning (nine false 1) []).bus.walk.found < 24 ∧
    ((assigning (nine false 1) []).modCmc fun c =>
      { c with stored := List.replicate 9 none ++ [some ⟨4, 9⟩] }).cmc.stored[(Role.dosing .l2).index - 1]? =
        some (some ⟨4, 9⟩) ∧
    plant.bound (.dosing .l2) = false ∧ plant.stateRule (.dosing .l2) = true ∧
    kindOf (4 : Byte) = some (Role.dosing .l2).kind ∧
    ¬((assigning (nine false 1) []).cmc.stored[(Role.dosing .l2).index - 1]? = some (some ⟨4, 9⟩)) := by
  decide +kernel

theorem witness_StationTableStaysConsistent : (st plant).block.bus.tablesOk = true ∧
    step (st plant) = .next (st plant) := ⟨by decide +kernel, rfl⟩

theorem witness_StationEnrolBeginsAWalk : plant.linkIdle = true ∧ plant.bus.walk.active = false ∧
    walking.linkIdle = true ∧ walking.bus.walk.active = true := by decide +kernel

/-- The header's entry bound to no role, and the queue of commands full. -/
def unbound : Block := plant.modBus fun x => { x with stations := [member 1 1 none, member 5 5 none] }
def fullCommands : Block := plant.modBus fun x => { x with queue := List.replicate 8 ⟨false, 3⟩ }

/-- A station of a kind, LOST and bound to no role, alone in the table. -/
def lostMember (n : Nat) (kind : Byte) : Station := { member n kind none with lost := true }
def lostRole (n : Nat) (kind : Byte) : Block := plant.modBus fun x => { x with stations := [lostMember n kind] }

theorem witness_Stations_boundAndUnbound : unbound.linkIdle = true ∧ unbound.bus.entriesOk = true ∧
    unbound.station 5 = some (member 5 5 none) ∧ (member 5 5 none).ident.kind = 5 ∧
    unbound.bound .header = false ∧ plant.bus.entriesOk = true ∧
    plant.station 5 = some (member 5 5 (some .header)) ∧ plant.bus.queue.length < 8 ∧
    8 ≤ fullCommands.bus.queue.length ∧ fullCommands.linkIdle = true := by decide +kernel

/-- An owner's record beside each role that acts on its binding, and the station of the role. -/
theorem witness_Stations_owners :
    (lostRole 4 4).bus.entriesOk = true ∧ (lostRole 4 4).bound (.dosing .l1) = false ∧
    (lostRole 4 4).stateRule (.dosing .l1) = true ∧ ((lostRole 4 4).station 4).map Station.role = some none ∧
    ((lostRole 4 4).station 4).map Station.lost = some true ∧ (lostRole 4 4).linkIdle = true ∧
    plant.bound (.dosing .l1) = true ∧ plant.stateRule (.dosing .l1) = true ∧ plant.bus.queue.length < 7 ∧
    (lineIn .firing).bound (.dosing .l1) = true ∧ (lineIn .firing).stateRule (.dosing .l1) = false ∧
    (lineIn .firing).linkIdle = true ∧ plant.bound .bypass = false ∧
    7 ≤ fullCommands.bus.queue.length ∧ fullCommands.bound (.dosing .l1) = true ∧
    fullCommands.stateRule (.dosing .l1) = true := by decide +kernel

/-- R175, R176: a LOST station bound keeps its state and takes the return state BOUND; a healthy one keeps the
return state it has. -/
theorem test_return_state :
    (((lostRole 4 4).bindRole (lostMember 4 4) (.dosing .l1)).station 4).map Station.returnState = some .bound ∧
    ((unbound.bindRole (member 5 5 none) .header).station 5).map Station.returnState = some .enrolled ∧
    ((unbound.bindRole (member 5 5 none) .header).station 5).map Station.state = some .bound := by decide +kernel

theorem witness_Stations_refused : plant.station 20 = none ∧ plant.station 1 = some (member 1 1 (some (.feeder .l1))) ∧
    kindOf (member 1 1 none).ident.kind ≠ some Role.header.kind ∧
    (lineIn .firing).station 1 = some (member 1 1 (some (.feeder .l1))) ∧
    (lineIn .firing).stateRule (.feeder .l1) = false ∧
    kindOf (member 1 1 none).ident.kind = some (Role.feeder .l2).kind ∧
    plant.stateRule (.feeder .l2) = true ∧ plant.bound (.feeder .l2) = false := by decide +kernel

theorem witness_Stations_forgotten : unbound.station 20 = none ∧
    unbound.station 1 = some (member 1 1 none) ∧ (member 1 1 none).role = none ∧
    unbound.bus.queue.length < 8 ∧
    8 ≤ (unbound.modBus fun x => { x with queue := List.replicate 8 ⟨false, 3⟩ }).bus.queue.length := by
  decide +kernel

/-! ## Witnesses: the host link -/

theorem witness_FrameBytesAreTheRequest : plant.linkIdle = true ∧
    (Request.mk 1 0 (List.replicate 248 0)).payload.length ≤ 248 := by decide +kernel

/-- A link whose assembler is at a stage, with the bytes it holds. -/
def assembling (a : Assembler) (bs : List Byte) : Block :=
  plant.modLink fun k => { k with assembler := a, assembly := bs }

theorem witness_InboundErrorsAreCounted : plant.link.requests = [] ∧ plant.link.takes = true ∧
    plant.link.assembler = .hunt ∧ plant.link.assembly = [] ∧ (0 : Byte) ≠ 0xC3 ∧
    State.reset.block.link.takes = false ∧ State.reset.block.link.requests = [] ∧
    (assembling .length [0xC3]).link.assembly = [0xC3] ∧ (1 : Byte).toNat < 2 ∧ 250 < (251 : Byte).toNat ∧
    (assembling .body [0xC3, 2]).link.assembler ≠ .hunt := by decide +kernel

/-- A frame short of its last CRC byte, and an inbound buffer that is full. -/
def crowded (a : Assembler) : Block :=
  plant.modLink fun k =>
    { k with assembler := a, assembly := if a = .hunt then [] else [0xC3, 2]
             requests := List.replicate 4 ⟨1, 0, List.replicate 250 0⟩ }

theorem witness_Inbound_crcAndOverrun :
    let k := (assembling .crc [0xC3, 2, 1, 0, 0]).link
    let frame := k.assembly ++ [0]
    k.requests = [] ∧ k.takes = true ∧ k.assembler = .crc ∧ k.held < 1024 ∧
    frame.length = (byteAt frame 1).toNat + 4 ∧ frame.drop 4 ≠ crcBytes ((frame.drop 1).take 3) ∧
    (crowded .hunt).link.requests ≠ [] ∧ (crowded .hunt).link.takes = true ∧ 1024 ≤ (crowded .hunt).link.held ∧
    (crowded .hunt).link.assembler = .hunt ∧ (crowded .body).link.assembler ≠ .hunt ∧
    1024 ≤ (crowded .body).link.held := by decide +kernel

/-- Requests waiting, and a frame in assembly, that hold `n` bytes: both sides of the two levels of R193. -/
def holding (n : Nat) : Link :=
  if n < 300 then { (assembling .body []).link with assembly := 0xC3 :: List.replicate (n - 1) 200 }
  else { (assembling .body []).link with
    requests := List.replicate 2 ⟨1, 0, List.replicate 248 0⟩, assembly := 0xC3 :: List.replicate (n - 509) 255 }

theorem witness_Inbound_levels : (holding 256).held = 256 ∧ (holding 257).held = 257 ∧ (holding 767).held = 767 ∧
    (holding 768).held = 768 ∧ (holding 767).restartDue = false ∧ (holding 767).takes = true ∧
    (holding 256).assembler = .body ∧ (holding 768).held < 1024 ∧
    { holding 768 with restartDue := true }.restartDue = true ∧ (holding 256).evalRdyo.rdyo = true ∧
    { holding 257 with rdyo := false }.evalRdyo.rdyo = false ∧ (holding 767).evalRdyo.rdyo = true ∧
    (holding 768).evalRdyo.rdyo = false := by decide +kernel

/-- A notice pending, with its owed mark. -/
def entry (owed : Bool) : NoticeEntry :=
  ⟨.exceedance, 1, 1, .uptime 1, .uptime 1, List.replicate 6 0, owed⟩
def noticed (owed : Bool) : Block := plant.modNotices fun _ => [entry owed]

theorem witness_LinkResetEmptiesTheLink : plant.ready = true ∧ plant.link.restartPending = false ∧
    State.reset.block.ready = false ∧ (noticed false).notices.entries = [entry false] ∧
    (noticed false).aboveFloor .exceedance = true ∧ (plant.modNotices fun _ => []).notices.entries = [] ∧
    plant.link.restartDue = false ∧ (noticed false).link.restarting = false ∧
    (plant.modLink fun k => { k with restartPending := true }).link.restartPending = true := by
  decide +kernel

/-- A message waiting, started or not. -/
def sendingOf (b : Block) (x : Bool) : Block := b.modLink fun k => { k with outbound := [[1, 2, 3]], sending := x }

theorem witness_Messages_leave : plant.link.restartPending = false ∧
    (plant.modLink fun k => { k with outbound := [] }).link.outbound = [] ∧
    (sendingOf (plant.modNotices fun _ => []) false).link.outbound = [[1, 2, 3]] ∧
    (sendingOf plant false).link.requests = [] ∧
    ∀ e ∈ (sendingOf (plant.modNotices fun _ => []) false).notices.entries, e.owed = false := by decide +kernel

/-- An entry not owed, one owed, and one more owed behind it: with 32 bytes free for the first of them alone. -/
theorem witness_Messages_owed :
    let other : NoticeEntry := { entry false with kind := .holdLimit }
    let behind : NoticeEntry := { entry true with subject := 2 }
    let b := (sendingOf (noticed true) true).modNotices fun _ => [other] ++ entry true :: [behind]
    b.link.restarting = false ∧ b.link.sending = true ∧ b.link.awaiting = false ∧ b.link.requests = [] ∧
    b.notices.entries = [other] ++ entry true :: [behind] ∧ other.owed = false ∧ (entry true).owed = true ∧
    b.aboveFloor (entry true).kind = true ∧ other.is (entry true).kind (entry true).subject = false ∧
    behind.is (entry true).kind (entry true).subject = false ∧ b.link.outbound = [[1, 2, 3]] ∧
    (List.map List.length ([] : List (List Byte))).sum + 32 ≤ 2048 ∧
    ((List.replicate 8 (List.replicate 252 (0 : Byte))).map List.length).sum + 32 ≤ 2048 ∧
    2048 < ((List.replicate 8 (List.replicate 252 (0 : Byte))).map List.length).sum + 26 + 32 := by decide +kernel

/-- Two entries owed: with 58 bytes free behind the message that leaves both have their message placed, with 57 the
first alone. -/
theorem witness_Messages_both :
    let b (n : Nat) := (plant.modNotices fun _ => [entry true, { entry true with subject := 2 }]).modLink fun k =>
      { k with outbound := [1, 2, 3] :: List.replicate n [0], sending := true }
    (b 0).link.restarting = false ∧ (b 0).link.sending = true ∧ (b 0).link.awaiting = false ∧
    (b 0).link.requests = [] ∧ (b 1990).link.outbound = [1, 2, 3] :: List.replicate 1990 [0] ∧
    (match exec (.messageSent true) ⟨[], b 1990⟩ with
      | .next t => t.block.notices.entries.map NoticeEntry.owed
      | _ => []) = [false, false] ∧
    (match exec (.messageSent true) ⟨[], b 1991⟩ with
      | .next t => t.block.notices.entries.map NoticeEntry.owed
      | _ => []) = [false, true] := by decide +kernel

/-- A request that waits behind a message being sent, with 256 bytes free once it has left or with 255. -/
def waitsFor (n : Nat) : Block := (noticed true).modLink fun k =>
  { k with outbound := List.replicate 254 1 :: List.replicate n [0], sending := true
           requests := [⟨byte ReqKind.ident.code, 5, []⟩] }

theorem witness_Messages_waiting : (waitsFor 1792).link.restarting = false ∧ (waitsFor 1792).link.sending = true ∧
    (waitsFor 1792).link.outbound = List.replicate 254 1 :: List.replicate 1792 [0] ∧
    (waitsFor 1792).link.requests = [⟨byte ReqKind.ident.code, 5, []⟩] ∧ (waitsFor 1792).outboundFree < 256 ∧
    (waitsFor 1792).link.takes = true ∧ (waitsFor 1792).link.assembler = .hunt ∧
    (waitsFor 1792).link.assembly = [] ∧ (waitsFor 1792).link.held + 0 + 6 ≤ 1024 ∧ plant.linkIdle = true ∧
    ((waitsFor 1792).modLink fun k => { k with outbound := k.outbound.tail }).outboundFree = 256 ∧
    ((waitsFor 1793).modLink fun k => { k with outbound := k.outbound.tail }).outboundFree < 256 := by decide +kernel

/-- R194, R204: the request first, with 256 bytes free, then the notice in what it left; or the notice first, and
the request waits on. -/
theorem test_either_takes_the_room :
    (match exec (.messageSent true) ⟨[], waitsFor 1792⟩ with
      | .next t => decide (t.block.link.requests = [] ∧ t.block.link.outbound.length = 1794)
      | _ => false) = true ∧
    (match exec (.messageSent false) ⟨[], waitsFor 1792⟩ with
      | .next t => decide (t.block.link.requests.length = 1 ∧ t.block.link.outbound.length = 1793)
      | _ => false) = true := by decide +kernel

theorem witness_GeneralTestsRefuse : plant.linkIdle = true ∧ reqKindOf 0 = none ∧ reqKindOf 1 = some .ident ∧
    [(0 : Byte)].length ≠ ReqKind.ident.length ∧ [(0 : Byte)].length ≤ 248 ∧
    lineOf 0 = none ∧ lineOf 4 = none ∧ turbineOf 0 = none ∧ turbineOf 3 = none ∧ 24 < (25 : Byte).toNat ∧
    roleOf 0 = none ∧ roleOf 20 = none ∧ noticeKindOf 0 = none ∧ noticeKindOf 28 = none := by decide +kernel

theorem witness_IdentAndReportsFitOneFrame : plant.linkIdle = true := by decide +kernel

/-- A link with nothing outbound. -/
def quiet : Block := plant.modLink fun k => { k with outbound := [] }

theorem witness_RestartFollowsItsReply : quiet.linkIdle = true ∧ quiet.link.outbound = [] ∧
    quiet.cmc.save ≠ .writing := by decide +kernel

/-- The DONE of a RESTART behind a message being sent. -/
theorem witness_Restart_behind :
    let b := plant.modLink fun k => { k with restartPending := true, sending := true, outbound := [[1, 2], [3]] }
    b.link.restartPending = true ∧ b.link.sending = true ∧ b.link.outbound = [[1, 2], [3]] := by decide +kernel

/-! ## Witnesses: notices, records, parameters -/

theorem witness_RaisesAnnounceOrCoalesce : plant.notice .exceedance 1 = none ∧
    (noticed false).notice .exceedance 1 = some (entry false) ∧ plant.aboveFloor .exceedance = true ∧
    plant.link.awaiting = false ∧ plant.link.restarting = false ∧ 32 ≤ plant.outboundFree ∧
    (plant.modLink fun k => { k with outbound := List.replicate 8 (List.replicate 254 0) }).outboundFree < 32 ∧
    { plant with notices := ⟨3, []⟩ }.aboveFloor .exceedance = false := by decide +kernel

theorem witness_NoticeClearClearsTheNamed : plant.linkIdle = true ∧ NoticeKind.exceedance.subjectOk 1 = true ∧
    NoticeKind.exceedance.subjectOk 4 = false ∧ NoticeKind.exceedance.subjectOk 0 = false ∧
    (28 : Byte) ≠ 0xFF ∧ noticeKindOf (28 : Byte).toNat = none := by decide +kernel

theorem witness_NoticeFloorIsStored : plant.linkIdle = true ∧ 3 ≤ (3 : Byte).toNat ∧
    ∀ k, plant.classOf k ≤ 3 := by
  refine ⟨by decide +kernel, by decide, ?_⟩
  intro k; cases k <;> decide +kernel

/-- With floor 3 in force two entries rise above floor 0: with 308 bytes free both have their message placed, with
307 the second is owed. -/
theorem witness_NoticeFloor_rises :
    let b (n : Nat) : Block := { plant with
      notices := ⟨3, [entry false, { entry false with subject := 2 }]⟩
      link := { plant.link with outbound := List.replicate n [0] } }
    let owed (n : Nat) : List Bool := match exec (.noticeFloor 1 0) ⟨[], b n⟩ with
      | .next t => t.block.notices.entries.map NoticeEntry.owed
      | _ => []
    (b 1740).linkIdle = true ∧ (b 0).notices.floor = 3 ∧ (b 0).classOf .exceedance ≤ 3 ∧
    0 < (b 0).classOf .exceedance ∧ owed 1740 = [false, false] ∧ owed 1741 = [false, true] ∧
    owed 1767 = [true, true] := by decide +kernel

/-- A record of line 1. -/
def record (n : Nat) : StoredRecord :=
  ⟨n, .l1, .episode ⟨.clock noon, .clock noon, 1, ⟨false, false, true⟩, .cleared, .none, 1, some 2026⟩⟩

theorem witness_RecordStoreStaysConsecutive : (st on).block.rcs.ok = true ∧ step (st on) = .next (st on) :=
  ⟨by decide +kernel, rfl⟩

/-- Chapter 12.6: serials 41 to 232, 192 records. -/
def fullStore : Block :=
  { plant with rcs := ⟨record 41 :: (List.range 191).map (fun k => record (42 + k)), 233, 0⟩ }

theorem witness_FullStoreDropsTheOldest : fullStore.rcs.records = record 41 :: fullStore.rcs.records.tail ∧
    fullStore.rcs.records.tail.length = 191 := by decide +kernel

theorem witness_FetchAcknowledgesAndReturns : fullStore.linkIdle = true ∧
    serialBelow 41 45 = true ∧ serialBelow 45 45 = false ∧ serialBelow 4294967295 1 = true := by decide +kernel

theorem witness_ParamSetStoresInRange : plant.linkIdle = true ∧ paramName 2 1 5 = some (.line .l1 5) ∧
    (ParamName.line .l1 5).item.isSome = true ∧ (ParamName.line .l1 5).isBasis = false ∧
    plant.cmc.params.classes.length = 27 ∧ (ParamName.line .l1 5).ownerIdle plant = true ∧
    (ParamName.line .l1 5).ownerIdle (lineIn .firing) = false ∧ (lineIn .firing).linkIdle = true ∧
    paramName 7 0 1 = none ∧ paramName 4 1 3 = some (.turbine .t1 3) ∧
    (ParamName.turbine .t1 3).item.isNone = true ∧ paramName 3 1 1 = some (.quantity .dust 1) ∧
    (ParamName.quantity .dust 1).isBasis = true ∧ 1 < (2#32).toNat := by decide +kernel

/-- A line with causes, a pending entry whose class falls to the floor or rises above it, and the four items that
act at the write. -/
theorem witness_ParamSet_effects : (withEpisode .firing).linkIdle = true ∧
    paramName 2 1 19 = some (.line .l1 19) ∧ paramName 1 0 7 = some (.plant 7) ∧
    paramName 5 0 1 = some (.bus 1) ∧ paramName 6 9 1 = some (.noticeClass .exceedance 1) ∧
    (plant.line .l1).ccu.causes.isEmpty = true ∧
    (((lineIn .firing).modCcu .l1 fun c => { c with causes := ⟨true, false, false⟩ }).line .l1).ccu.causes.isEmpty
      = false ∧
    plant.bus.state = .free ∧ (noticed true).aboveFloor .exceedance = true ∧
    ({ noticed false with notices := ⟨2, [entry false]⟩ }).aboveFloor .exceedance = false ∧
    ({ noticed false with notices := ⟨2, [entry false]⟩ }).linkIdle = true ∧
    282 ≤ plant.outboundFree ∧ (entry false).kind = .exceedance := by decide +kernel

theorem witness_ParamSet_step : (st on).block.cmc.params.ok = true ∧ step (st on) = .next (st on) :=
  ⟨by decide +kernel, rfl⟩

theorem witness_StoredValuesAreRounded : (ParamName.line .l1 10).item.isSome = true ∧
    (ParamName.bus 1).item.isSome = true ∧ (ParamName.turbine .t1 1).item.isSome = true ∧
    (ParamName.turbine .t2 4).item.isSome = true ∧ (ParamName.turbine .t1 6).item.isSome = true ∧
    (ParamName.plant 1).item.isSome = true ∧ ParamName.plant 1 ≠ .bus 1 := by decide +kernel

theorem witness_ParamGetReadsTheSet : plant.linkIdle = true ∧ paramName 7 0 1 = none ∧
    paramName 4 1 3 = some (.turbine .t1 3) ∧ (ParamName.turbine .t1 3).item.isSome = false ∧
    paramName 1 0 1 = some (.plant 1) ∧ (ParamName.plant 1).item.isSome = true := by decide +kernel

theorem witness_MemoryStaysCanonical : (st on).block.memoryOk = true ∧ step (st on) = .next (st on) :=
  ⟨by decide +kernel, rfl⟩
end Sys2Proof.Tests
end

section
/-! Rules about notices and the Record Store: what a raise leaves pending, and what it leaves alone (R202, R203,
R207). -/

namespace Sys2Proof.Machine
open Sys2Proof

theorem NoticeEntry.is_iff (e : NoticeEntry) (k : NoticeKind) (n : Nat) :
    e.is k n = true ↔ e.kind = k ∧ e.subject = n := by
  simp [NoticeEntry.is]

/-- A search that `e` does not meet does not see `e` put in its place. -/
theorem find?_insertEntry_of_not {p : NoticeEntry → Bool} {e : NoticeEntry} (he : p e = false)
    (es : List NoticeEntry) : (insertEntry e es).find? p = es.find? p := by
  induction es with
  | nil => simp [insertEntry, he]
  | cons f fs ih =>
    unfold insertEntry
    split
    · simp [he]
    · simp only [List.find?_cons, ih]

/-- A search that nothing but `e` meets finds `e` where it is put in its place. -/
theorem find?_insertEntry_of_new {p : NoticeEntry → Bool} {e : NoticeEntry} (he : p e = true)
    {es : List NoticeEntry} (hes : es.find? p = none) : (insertEntry e es).find? p = some e := by
  induction es with
  | nil => simp [insertEntry, he]
  | cons f fs ih =>
    rw [List.find?_cons] at hes
    split at hes
    · simp at hes
    · next hf =>
      unfold insertEntry
      split
      · simp [he]
      · simp [hf, ih hes]

/-- A change of the entries of one kind and subject that keeps both commutes with the search for an entry. -/
theorem find?_is_update {f : NoticeEntry → NoticeEntry}
    (hf : ∀ e, (f e).kind = e.kind ∧ (f e).subject = e.subject) {k k' : NoticeKind} {n n' : Nat}
    (es : List NoticeEntry) :
    (es.map fun x => if x.is k n then f x else x).find? (fun e => e.is k' n') =
      (es.find? fun e => e.is k' n').map fun x => if x.is k n then f x else x := by
  have hcomp : ((fun e : NoticeEntry => e.is k' n') ∘ fun x => if x.is k n then f x else x) =
      fun e => e.is k' n' := funext fun e => by
    dsimp only [Function.comp]
    split <;> simp [NoticeEntry.is, hf e]
  rw [List.find?_map, hcomp]

namespace Block
variable (b : Block)

theorem notice_congr {b t : Block} (h : t.notices = b.notices) (k : NoticeKind) (n : Nat) :
    t.notice k n = b.notice k n := by
  simp only [notice, h]

theorem pendingWith_congr {b t : Block} (h : t.notices = b.notices) {k : NoticeKind} {n : Nat} {d : List Byte} :
    t.pendingWith k n d ↔ b.pendingWith k n d := by
  simp only [pendingWith, notice_congr h]

theorem notice_modNotices_of_ne {f : NoticeEntry → NoticeEntry} {k k' : NoticeKind} {n n' : Nat}
    (h : ¬(k' = k ∧ n' = n)) (hf : ∀ e, (f e).kind = e.kind ∧ (f e).subject = e.subject) :
    (b.modNotices fun es => es.map fun x => if x.is k n then f x else x).notice k' n' = b.notice k' n' := by
  simp only [notice, modNotices_entries, find?_is_update hf]
  rw [Option.map_congr (g := id), Option.map_id_fun, id_eq]
  intro e he
  obtain ⟨hk, hn⟩ := (e.is_iff k' n').1 (List.find?_some (p := fun e : NoticeEntry => e.is k' n') he)
  rw [if_neg, id_eq]
  rw [NoticeEntry.is_iff, hk, hn]
  exact h

theorem notice_modNotices_self {f : NoticeEntry → NoticeEntry} {k : NoticeKind} {n : Nat}
    (hf : ∀ e, (f e).kind = e.kind ∧ (f e).subject = e.subject) :
    (b.modNotices fun es => es.map fun x => if x.is k n then f x else x).notice k n = (b.notice k n).map f := by
  simp only [notice, modNotices_entries, find?_is_update hf]
  exact Option.map_congr fun e he => if_pos (List.find?_some (p := fun e : NoticeEntry => e.is k n) he)

theorem announce_notice_of_ne {k k' : NoticeKind} {n n' : Nat} (h : ¬(k' = k ∧ n' = n)) :
    (b.announce k n).notice k' n' = b.notice k' n' := by
  unfold announce
  split
  · rfl
  · split
    · exact notice_congr (by simp) _ _
    · exact notice_modNotices_of_ne (f := fun x => { x with owed := true }) b h fun _ => ⟨rfl, rfl⟩

/-- Announcing an entry changes at most its owed mark. -/
theorem announce_pendingWith (k : NoticeKind) (n : Nat) (d : List Byte) (h : b.pendingWith k n d) :
    (b.announce k n).pendingWith k n d := by
  obtain ⟨e, he, hd⟩ := h
  unfold announce
  rw [he]
  dsimp only
  split
  · exact ⟨e, he, hd⟩
  · refine ⟨{ e with owed := true }, ?_, hd⟩
    rw [notice_modNotices_self (f := fun x => { x with owed := true }) b fun _ => ⟨rfl, rfl⟩, he]
    rfl

/-- A notice raised is pending with the detail given (R203). -/
theorem raise_pendingWith (k : NoticeKind) (n : Nat) (d : List Byte) : (b.raise k n d).pendingWith k n d := by
  unfold raise
  split
  · next e he =>
    exact ⟨{ e with count := satAdd Config.max8 e.count 1, last := b.now, detail := padDetail d },
      (notice_modNotices_self b (f := fun x => { x with
        count := satAdd Config.max8 x.count 1, last := b.now, detail := padDetail d }) fun _ => ⟨rfl, rfl⟩).trans
        (by rw [he]; rfl), rfl⟩
  · next he =>
    have hnew : (b.modNotices (insertEntry ⟨k, n, 1, b.now, b.now, padDetail d, false⟩)).pendingWith k n d :=
      ⟨_, find?_insertEntry_of_new (by simp [NoticeEntry.is]) he, rfl⟩
    dsimp only
    split
    · exact announce_pendingWith _ k n d hnew
    · exact hnew

/-- A notice raised leaves the entry of every other kind and subject (R203). -/
theorem raise_notice_of_ne {k k' : NoticeKind} {n n' : Nat} (h : ¬(k' = k ∧ n' = n)) (d : List Byte) :
    (b.raise k n d).notice k' n' = b.notice k' n' := by
  unfold raise
  split
  · exact notice_modNotices_of_ne b h fun _ => ⟨rfl, rfl⟩
  · have hnew : (b.modNotices (insertEntry ⟨k, n, 1, b.now, b.now, padDetail d, false⟩)).notice k' n' =
        b.notice k' n' :=
      find?_insertEntry_of_not (Bool.eq_false_iff.2 fun g => h
        (((NoticeEntry.is_iff _ k' n').1 g).imp Eq.symm Eq.symm)) _
    dsimp only
    split
    · rw [announce_notice_of_ne _ h, hnew]
    · exact hnew

/-- A record handed over raises RECORDS_LOST alone (R207). -/
theorem enterRecord_notice_of_ne (l : LineId) (r : RecordBody) {k : NoticeKind} (h : k ≠ .recordsLost) (n : Nat) :
    (b.enterRecord l r).notice k n = b.notice k n := by
  unfold enterRecord
  dsimp only
  split
  · rfl
  · split
    · exact raise_notice_of_ne _ (fun g => h g.1) _
    · rfl

/-- A record handed over is the newest, under the next serial (R207). -/
theorem enterRecord_newest (l : LineId) (r : RecordBody) :
    (b.enterRecord l r).rcs.records.getLast? = some ⟨b.rcs.nextSerial, l, r⟩ := by
  unfold enterRecord
  dsimp only
  split
  · simp
  · split <;> simp [List.getLast?_cons]

end Block
end Sys2Proof.Machine
end

section
/-! Rules about the operations on one line: which of them change that line and its copy in the BLU alone, which
raise and record nothing, and what the line's records read afterwards (R10, R14, R21, R35, R96 to R98, R103, R109). -/

namespace Sys2Proof.Machine
open Sys2Proof

namespace Block
variable (b : Block)

/-! ## The steps of the longer operations -/

/-- A change of line state as the LSC, the GFU, the BLU and the CCU take it; the DAU takes it last (R21). -/
def entered (l : LineId) (st : LineState) : Block :=
  (((b.modLsc l fun x => { x with state := st, pendingConds := [] }).modGfu l fun g =>
    g.enter (b.lineParams l).minLoad st).modCopy l fun x => { x with state := st }).ccuEnter l st

theorem enter_eq (l : LineId) (st : LineState) : b.enter l st = (b.entered l st).dauEnter l st := rfl

/-- A new cause set stored, and joined to an open episode (R102, R104). -/
def causesStored (l : LineId) (new : Causes) : Block :=
  b.modDau l fun d =>
    { d with causes := new
             episode := d.episode.map fun e => { e with causesSeen := e.causesSeen.union new } }

/-- A cause that stays as it was changes nothing (R102). -/
theorem setCause_self {l : LineId} {x : Cause} {p : Bool} (h : (b.line l).dau.causes.put x p = (b.line l).dau.causes) :
    b.setCause l x p = b := by
  simp [setCause, h]

/-- The first cause of a line in service opens an episode where none is open (R103). -/
theorem setCause_opens {l : LineId} {x : Cause} {p : Bool} {new : Causes}
    (hnew : (b.line l).dau.causes.put x p = new) (hold : (b.line l).dau.causes.isEmpty = true)
    (hsome : new.isEmpty = false) (hs : b.inService l = true) (he : (b.line l).dau.episode = none) :
    b.setCause l x p = ((b.causesStored l new).openEpisode l).takeCauses l new := by
  have hne : new ≠ (b.line l).dau.causes := fun h => by simp [h, hold] at hsome
  have hs' : (b.causesStored l new).inService l = true := by simpa [inService, causesStored] using hs
  have he' : ((b.causesStored l new).line l).dau.episode = none := by simp [causesStored, he]
  unfold setCause
  dsimp only
  rw [hnew, if_neg hne, if_pos (by simp [hold, hsome])]
  exact congrArg (takeCauses · l new) (if_pos (by rw [← causesStored, hs', he']; rfl))

/-- The last cause gone closes the episode (R109). -/
theorem setCause_closes {l : LineId} {x : Cause} {p : Bool} {new : Causes}
    (hnew : (b.line l).dau.causes.put x p = new) (hold : (b.line l).dau.causes.isEmpty = false)
    (hnone : new.isEmpty = true) :
    b.setCause l x p = ((b.causesStored l new).closeEpisode l .cleared).takeCauses l new := by
  have hne : new ≠ (b.line l).dau.causes := fun h => by simp [h, hold] at hnone
  unfold setCause
  dsimp only
  rw [hnew, if_neg hne, if_neg (by simp [hold]), if_pos (by simp [hold, hnone])]
  rfl

/-- Any other change of the set is stored, joined to an open episode and taken by the CCU, and no more (R102). -/
theorem setCause_stores {l : LineId} {x : Cause} {p : Bool} {new : Causes}
    (hnew : (b.line l).dau.causes.put x p = new) (hne : new ≠ (b.line l).dau.causes)
    (hopen : (b.line l).dau.causes.isEmpty = true → b.inService l = false ∨ (b.line l).dau.episode ≠ none)
    (hclose : (b.line l).dau.causes.isEmpty = false → new.isEmpty = false) :
    b.setCause l x p = (b.causesStored l new).takeCauses l new := by
  have hs' : (b.causesStored l new).inService l = b.inService l := by simp [inService, causesStored]
  have he' : ((b.causesStored l new).line l).dau.episode.isNone = (b.line l).dau.episode.isNone := by
    simp [causesStored]
  unfold setCause
  dsimp only
  rw [hnew, if_neg hne, ← causesStored]
  congr 1
  cases hold : (b.line l).dau.causes.isEmpty with
  | false => simp [hclose hold]
  | true =>
    have hnot : (b.inService l && (b.line l).dau.episode.isNone) = false := by
      rcases hopen hold with h | h <;> simp [h, Option.isSome_iff_ne_none]
    rw [hs', he', hnot]
    simp

/-! ## What the line's records read afterwards -/

@[simp] theorem raiseLine_line (k : NoticeKind) (l : LineId) (d : List Byte) (m : LineId) :
    (b.raiseLine k l d).line m = b.line m := by simp [line]

@[simp] theorem enterRecord_line (l : LineId) (r : RecordBody) (m : LineId) :
    (b.enterRecord l r).line m = b.line m := by simp [line]

@[simp] theorem modCopy_line (l : LineId) (f : LineCopy → LineCopy) (m : LineId) :
    (b.modCopy l f).line m = b.line m := rfl

/-- A recomputation makes the effective ceiling the least term; the GFU takes it where it has changed (R97). -/
theorem recompute_line (l : LineId) : (b.recompute l).line l =
    { b.line l with
      ccu := { (b.line l).ccu with effective := (b.line l).ccu.leastTerm }
      gfu := if (b.line l).ccu.leastTerm = (b.line l).ccu.effective then (b.line l).gfu
             else (b.line l).gfu.takeCeiling ((b.line l).lsc.state == .firing) (b.line l).ccu.leastTerm } := by
  unfold recompute
  dsimp only
  split
  · next h => rw [h]
  · simp

/-- The deviation term and the effective ceiling after a change of the cause set (R96, R97). -/
theorem takeCauses_line (l : LineId) (c : Causes) :
    ((b.takeCauses l c).line l).lsc = (b.line l).lsc ∧ ((b.takeCauses l c).line l).dau = (b.line l).dau ∧
    ((b.takeCauses l c).line l).ccu.deviation = (if c.isEmpty then 1100 else (b.lineParams l).deviationCeil) ∧
    ((b.takeCauses l c).line l).ccu.effective = ((b.takeCauses l c).line l).ccu.leastTerm := by
  unfold takeCauses
  rw [recompute_line, modCcu_line_self]
  exact ⟨rfl, rfl, rfl, rfl⟩

@[simp] theorem openEpisode_line (l : LineId) : (b.openEpisode l).line l = { b.line l with
    dau := { (b.line l).dau with episode := some ⟨b.now, (b.line l).dau.causes, 0, .none⟩ } } := by
  simp [openEpisode]

theorem closeEpisode_of_none {l : LineId} (r : CloseReason) (h : (b.line l).dau.episode = none) :
    b.closeEpisode l r = b := by
  simp [closeEpisode, h]

theorem closeEpisode_line {l : LineId} (r : CloseReason) {e : Episode} (h : (b.line l).dau.episode = some e) :
    (b.closeEpisode l r).line l = { b.line l with
      dau := { (b.line l).dau with
        closed := satAdd Config.max16 (b.line l).dau.closed 1
        last := some ⟨r, e.minutes, b.now⟩
        episode := none } } := by
  simp [closeEpisode, h, now]

/-- The DAU's taking of a line state leaves the line's other records (R103, R109). -/
@[simp] theorem dauEnter_line (l : LineId) (st : LineState) :
    (b.dauEnter l st).line l = { b.line l with dau := ((b.dauEnter l st).line l).dau } := by
  cases st with
  | firing | hold => unfold dauEnter; dsimp only; split <;> simp
  | idle =>
    unfold dauEnter
    dsimp only
    cases h : (b.line l).dau.episode with
    | none => rw [closeEpisode_of_none b _ h]
    | some e => rw [closeEpisode_line b _ h]
  | warmup | rundown => rfl

/-- No episode is open after an entry to IDLE (R109). -/
theorem dauEnter_idle_episode (l : LineId) : ((b.dauEnter l .idle).line l).dau.episode = none := by
  unfold dauEnter
  dsimp only
  cases h : (b.line l).dau.episode with
  | none => rw [closeEpisode_of_none b _ h, h]
  | some e => rw [closeEpisode_line b _ h]

/-- With no cause present, and on entry to WARMUP or RUNDOWN, the DAU does nothing (R103, R109). -/
theorem dauEnter_self {l : LineId} {st : LineState} (h : st = .warmup ∨ st = .rundown ∨
    (st ≠ .idle ∧ (b.line l).dau.causes.isEmpty = true)) : b.dauEnter l st = b := by
  cases st with
  | warmup | rundown => rfl
  | firing | hold => simp_all [dauEnter]
  | idle => simp at h

/-- The CCU's taking of a line state leaves the line's LSC, EAU and DAU, and of the GFU all but its ceiling where the
line is not FIRING (R98, R97). -/
theorem ccuEnter_line {l : LineId} {st : LineState} (h : (b.line l).lsc.state = st) :
    ((b.ccuEnter l st).line l).lsc = (b.line l).lsc ∧ ((b.ccuEnter l st).line l).dau = (b.line l).dau ∧
    ∃ c, ((b.ccuEnter l st).line l).gfu = { (b.line l).gfu with ceiling := c } ∧
      (st ≠ .warmup → c = (b.line l).gfu.ceiling) := by
  cases st with
  | warmup =>
    refine ⟨by simp [ccuEnter, recompute_line], by simp [ccuEnter, recompute_line], ?_⟩
    simp only [ccuEnter, recompute_line]
    split
    · exact ⟨(b.line l).gfu.ceiling, by simp, by simp⟩
    · simp [Gfu.takeCeiling, h]
  | idle => simp [ccuEnter]
  | firing | hold | rundown => simp [ccuEnter]

/-- A change of line state as the line's LSC, DAU and GFU hold it before the DAU takes it (R21, R35). -/
theorem entered_line (l : LineId) (st : LineState) :
    ((b.entered l st).line l).lsc = { (b.line l).lsc with state := st, pendingConds := [] } ∧
    ((b.entered l st).line l).dau = (b.line l).dau ∧
    ∃ c, ((b.entered l st).line l).gfu =
        { (b.line l).gfu.enter (b.lineParams l).minLoad st with ceiling := c } ∧
      (st ≠ .warmup → c = ((b.line l).gfu.enter (b.lineParams l).minLoad st).ceiling) := by
  unfold entered
  obtain ⟨hl, hd, c, hg, hc⟩ := ccuEnter_line (l := l) (st := st)
    (((b.modLsc l fun x => { x with state := st, pendingConds := [] }).modGfu l fun g =>
      g.enter (b.lineParams l).minLoad st).modCopy l fun x => { x with state := st }) (by simp)
  rw [hl, hd, hg]
  exact ⟨by simp, by simp, c, by simp, by simpa using hc⟩

/-- The LSC's record after a change of line state (R21, R22). -/
@[simp] theorem enter_lsc (l : LineId) (st : LineState) :
    ((b.enter l st).line l).lsc = { (b.line l).lsc with state := st, pendingConds := [] } := by
  rw [enter_eq, dauEnter_line]
  exact (b.entered_line l st).1

/-- The GFU's record after a change of line state, but for its ceiling on entry to WARMUP (R35, R98). -/
theorem enter_gfu (l : LineId) (st : LineState) :
    ∃ c, ((b.enter l st).line l).gfu =
        { (b.line l).gfu.enter (b.lineParams l).minLoad st with ceiling := c } ∧
      (st ≠ .warmup → c = ((b.line l).gfu.enter (b.lineParams l).minLoad st).ceiling) := by
  rw [enter_eq, dauEnter_line]
  exact (b.entered_line l st).2.2

theorem enter_gfu_of_ne {l : LineId} {st : LineState} (h : st ≠ .warmup) :
    ((b.enter l st).line l).gfu = (b.line l).gfu.enter (b.lineParams l).minLoad st := by
  obtain ⟨c, hg, hc⟩ := b.enter_gfu l st
  rw [hg, hc h]

/-- An entry to IDLE sets the dosing demand to 0 (R98). -/
theorem enter_idle_demand (l : LineId) : ((b.enter l .idle).line l).ccu.demand = 0 := by
  rw [enter_eq, dauEnter_line]
  simp [entered, ccuEnter]

/-- No episode is open after an entry to IDLE (R109). -/
theorem enter_idle_episode (l : LineId) : ((b.enter l .idle).line l).dau.episode = none :=
  dauEnter_idle_episode _ l

/-- An entry to WARMUP lifts the guard and the reagent ceiling (R98). -/
theorem enter_warmup_ceilings (l : LineId) :
    ((b.enter l .warmup).line l).ccu.guard = 1100 ∧ ((b.enter l .warmup).line l).ccu.reagent = 1100 := by
  rw [enter_eq, dauEnter_line]
  simp [entered, ccuEnter, recompute_line, Config.maxLoad]

/-! ## Only one line changes -/

@[simp] theorem onlyLine_refl (l : LineId) : b.onlyLine b l :=
  ⟨⟨rfl, rfl, rfl, rfl, rfl⟩, rfl, rfl, rfl, rfl, fun _ _ => ⟨rfl, rfl⟩⟩

theorem onlyLine_trans {b t u : Block} {l : LineId} (h : b.onlyLine t l) (g : t.onlyLine u l) : b.onlyLine u l := by
  obtain ⟨⟨h1, h2, h3, h4, h5⟩, htdu, hbus, hcmc, hblu, hlines⟩ := h
  obtain ⟨⟨g1, g2, g3, g4, g5⟩, gtdu, gbus, gcmc, gblu, glines⟩ := g
  exact ⟨⟨g1.trans h1, g2.trans h2, g3.trans h3, g4.trans h4, g5.trans h5⟩, gtdu.trans htdu, gbus.trans hbus,
    gcmc.trans hcmc, by rw [gblu, hblu],
    fun m hm => ⟨(glines m hm).1.trans (hlines m hm).1, (glines m hm).2.trans (hlines m hm).2⟩⟩

theorem onlyLine_line {b t : Block} {l m : LineId} (h : b.onlyLine t l) (hm : m ≠ l) : t.line m = b.line m :=
  have ⟨_, _, _, _, _, hlines⟩ := h
  (hlines m hm).1

theorem onlyLine_cmc {b t : Block} {l : LineId} (h : b.onlyLine t l) : t.cmc = b.cmc :=
  have ⟨_, _, _, hcmc, _, _⟩ := h
  hcmc

@[simp] theorem modLine_onlyLine (l : LineId) (f : Line → Line) : b.onlyLine (b.modLine l f) l :=
  ⟨⟨rfl, rfl, rfl, rfl, rfl⟩, rfl, rfl, rfl, rfl, fun _ hm => ⟨modLine_line_of_ne b f hm, rfl⟩⟩

@[simp] theorem modLsc_onlyLine (l : LineId) (f : Lsc → Lsc) : b.onlyLine (b.modLsc l f) l := modLine_onlyLine b l _
@[simp] theorem modGfu_onlyLine (l : LineId) (f : Gfu → Gfu) : b.onlyLine (b.modGfu l f) l := modLine_onlyLine b l _
@[simp] theorem modCcu_onlyLine (l : LineId) (f : Ccu → Ccu) : b.onlyLine (b.modCcu l f) l := modLine_onlyLine b l _
@[simp] theorem modDau_onlyLine (l : LineId) (f : Dau → Dau) : b.onlyLine (b.modDau l f) l := modLine_onlyLine b l _

@[simp] theorem modCopy_onlyLine (l : LineId) (f : LineCopy → LineCopy) : b.onlyLine (b.modCopy l f) l :=
  ⟨⟨rfl, rfl, rfl, rfl, rfl⟩, rfl, rfl, rfl, rfl, fun _ hm => ⟨rfl, modCopy_get_of_ne b f hm⟩⟩

@[simp] theorem raiseLine_onlyLine (k : NoticeKind) (m : LineId) (d : List Byte) (l : LineId) :
    b.onlyLine (b.raiseLine k m d) l := by
  simp [onlyLine, baseKept, otherLinesKept, line]

@[simp] theorem enterRecord_onlyLine (m : LineId) (r : RecordBody) (l : LineId) :
    b.onlyLine (b.enterRecord m r) l := by
  simp [onlyLine, baseKept, otherLinesKept, line]

@[simp] theorem recompute_onlyLine (l : LineId) : b.onlyLine (b.recompute l) l := by
  unfold recompute
  dsimp only
  split
  · exact onlyLine_refl b l
  · exact onlyLine_trans (onlyLine_trans (modCcu_onlyLine b l _) (modGfu_onlyLine _ l _)) (modCopy_onlyLine _ l _)

@[simp] theorem setHostCeiling_onlyLine (l : LineId) (v : Nat) : b.onlyLine (b.setHostCeiling l v) l :=
  onlyLine_trans (modCcu_onlyLine b l _) (recompute_onlyLine _ l)

@[simp] theorem takeCauses_onlyLine (l : LineId) (c : Causes) : b.onlyLine (b.takeCauses l c) l :=
  onlyLine_trans (modCcu_onlyLine b l _) (recompute_onlyLine _ l)

@[simp] theorem ccuEnter_onlyLine (l : LineId) (st : LineState) : b.onlyLine (b.ccuEnter l st) l := by
  cases st with
  | warmup => exact onlyLine_trans (modCcu_onlyLine b l _) (recompute_onlyLine _ l)
  | idle => exact modCcu_onlyLine b l _
  | firing | hold | rundown => exact onlyLine_refl b l

@[simp] theorem openEpisode_onlyLine (l : LineId) : b.onlyLine (b.openEpisode l) l :=
  onlyLine_trans (modDau_onlyLine b l _) (raiseLine_onlyLine _ _ _ _ _)

@[simp] theorem closeEpisode_onlyLine (l : LineId) (r : CloseReason) : b.onlyLine (b.closeEpisode l r) l := by
  unfold closeEpisode
  split
  · exact onlyLine_refl b l
  · exact onlyLine_trans (onlyLine_trans (enterRecord_onlyLine b _ _ _) (raiseLine_onlyLine _ _ _ _ _))
      (modDau_onlyLine _ l _)

@[simp] theorem dauEnter_onlyLine (l : LineId) (st : LineState) : b.onlyLine (b.dauEnter l st) l := by
  unfold dauEnter
  split
  case h_3 => exact closeEpisode_onlyLine b l _
  case h_4 | h_5 => exact onlyLine_refl b l
  all_goals split <;> simp

@[simp] theorem causesStored_onlyLine (l : LineId) (c : Causes) : b.onlyLine (b.causesStored l c) l :=
  modDau_onlyLine b l _

@[simp] theorem entered_onlyLine (l : LineId) (st : LineState) : b.onlyLine (b.entered l st) l :=
  onlyLine_trans (onlyLine_trans (onlyLine_trans (modLsc_onlyLine b l _) (modGfu_onlyLine _ l _))
    (modCopy_onlyLine _ l _)) (ccuEnter_onlyLine _ l st)

@[simp] theorem enter_onlyLine (l : LineId) (st : LineState) : b.onlyLine (b.enter l st) l :=
  onlyLine_trans (entered_onlyLine b l st) (dauEnter_onlyLine _ l st)

@[simp] theorem enterRundown_onlyLine (l : LineId) (c : RundownCause) : b.onlyLine (b.enterRundown l c) l :=
  onlyLine_trans (modLsc_onlyLine b l _) (enter_onlyLine _ l _)

@[simp] theorem enterIdle_onlyLine (l : LineId) : b.onlyLine (b.enterIdle l) l :=
  onlyLine_trans (modLsc_onlyLine b l _) (enter_onlyLine _ l _)

@[simp] theorem enterWarmup_onlyLine (l : LineId) (x : Bool) : b.onlyLine (b.enterWarmup l x) l :=
  onlyLine_trans (modLsc_onlyLine b l _) (enter_onlyLine _ l _)

/-! ## Nothing is raised, recorded or sent -/

@[simp] theorem reportsKept_refl : b.reportsKept b := ⟨rfl, rfl, rfl⟩

theorem reportsKept_trans {b t u : Block} (h : b.reportsKept t) (g : t.reportsKept u) : b.reportsKept u :=
  ⟨g.1.trans h.1, g.2.1.trans h.2.1, g.2.2.trans h.2.2⟩

@[simp] theorem entered_reportsKept (l : LineId) (st : LineState) : b.reportsKept (b.entered l st) := by
  simp [reportsKept, entered]

/-- An entry to WARMUP or RUNDOWN raises and records nothing, and neither does one to FIRING or HOLD with no cause
present (R103). -/
theorem enter_reportsKept {l : LineId} {st : LineState} (h : st = .warmup ∨ st = .rundown ∨
    (st ≠ .idle ∧ (b.line l).dau.causes.isEmpty = true)) : b.reportsKept (b.enter l st) := by
  rw [enter_eq, dauEnter_self]
  · exact entered_reportsKept b l st
  · rwa [(b.entered_line l st).2.1]

theorem enterRundown_reportsKept (l : LineId) (c : RundownCause) : b.reportsKept (b.enterRundown l c) :=
  reportsKept_trans (t := b.modLsc l _) (by simp [reportsKept]) (enter_reportsKept _ (.inr (.inl rfl)))

theorem enterWarmup_reportsKept (l : LineId) (x : Bool) : b.reportsKept (b.enterWarmup l x) :=
  reportsKept_trans (t := b.modLsc l _) (by simp [reportsKept]) (enter_reportsKept _ (.inl rfl))

end Block
end Sys2Proof.Machine
end

section
/-! Requests on an idle link: the owner's action and its reply, placed at once (R194, R195). -/

namespace Sys2Proof.Machine
open Sys2Proof

theorem reqKindOf_code (k : ReqKind) : reqKindOf (byte k.code) = some k := by
  cases k <;> rfl

theorem ReqKind.length_le (k : ReqKind) : k.length ≤ 15 := by
  cases k <;> decide

theorem lineOf_field_byte (l : LineId) (p : List Byte) :
    lineOf (field (byte (lineNumber l) :: p) 0 1) = some l := by
  cases l <;> rfl

namespace Block
variable (b : Block)

/-- The part while a request is executed: it awaits its reply (R203). -/
def awaiting : Block := b.modLink fun k => { k with awaiting := true }

/-- The part as a request leaves it whose reply is placed (R195). -/
def replied (k : ReqKind) (tag : Byte) (r : Reply) : Block :=
  (b.place (replyFrame (byte k.code) tag r)).modLink fun k => { k with awaiting := false }

theorem awaiting_line (l : LineId) : b.awaiting.line l = b.line l := rfl

theorem replied_line (k : ReqKind) (tag : Byte) (r : Reply) (l : LineId) : (b.replied k tag r).line l = b.line l := rfl

theorem replied_notices (k : ReqKind) (tag : Byte) (r : Reply) : (b.replied k tag r).notices = b.notices := rfl

theorem replied_rcs (k : ReqKind) (tag : Byte) (r : Reply) : (b.replied k tag r).rcs = b.rcs := rfl

theorem replied_lastReply (k : ReqKind) (tag : Byte) (r : Reply) : (b.replied k tag r).lastReply k tag r := by
  simp [replied, lastReply]

theorem linkIdle_awaiting (h : b.linkIdle = true) : b.link.awaiting = false := by
  obtain ⟨-, -, -, -, -, -, hawaiting, -⟩ := b.linkIdle_iff.1 h
  exact hawaiting

/-- A reply to a request that has changed nothing. -/
theorem awaiting_replied (h : b.linkIdle = true) (k : ReqKind) (tag : Byte) (r : Reply) :
    b.awaiting.replied k tag r = b.place (replyFrame (byte k.code) tag r) := by
  have ha := b.linkIdle_awaiting h
  rcases b with ⟨ready, cause, feedStop, order, clock, lines, blu, tdu, bus, x, notices, rcs, cmc⟩
  rcases x with ⟨baud, receiver, lineLow, assembler, assembly, requests, outbound, sending, sent, rdyo, pend, due,
    awaiting, stray, gap, crc, overrun⟩
  subst ha
  rfl

/-- An action on one line alone, and its reply, change that line alone. -/
theorem replied_onlyLine {t : Block} {l : LineId} (h : b.awaiting.onlyLine t l) (k : ReqKind) (tag : Byte) (r : Reply) :
    b.onlyLine (t.replied k tag r) l := h

/-- An action that raises and records nothing, and its reply. -/
theorem replied_onlyReplied {t : Block} (hb : b.linkIdle = true) (h : b.awaiting.reportsKept t) (k : ReqKind)
    (tag : Byte) (r : Reply) : b.onlyReplied (t.replied k tag r) k tag r := by
  obtain ⟨hn, hr, hl⟩ := h
  refine ⟨hn, hr, ?_⟩
  calc (t.replied k tag r).link
      = (b.awaiting.replied k tag r).link := by simp only [replied, modLink_link, place_link, hl]
    _ = _ := by rw [b.awaiting_replied hb]; rfl

theorem onLine_byte (l : LineId) (p : List Byte) (f : LineId → Block × Reply) :
    b.onLine (byte (lineNumber l) :: p) f = f l := by
  simp [onLine, lineOf_field_byte]

end Block

/-- A request executed and answered, from what its owner does with it. -/
theorem Block.answer_of_serve {b t : Block} {k : ReqKind} {tag : Byte} {p : List Byte} {r : Reply}
    (h : b.awaiting.serve ⟨byte k.code, tag, p⟩ = (t, r)) : b.answer ⟨byte k.code, tag, p⟩ = t.replied k tag r := by
  have hdef : b.answer ⟨byte k.code, tag, p⟩ = (b.awaiting.serve ⟨byte k.code, tag, p⟩).1.replied k tag
      (b.awaiting.serve ⟨byte k.code, tag, p⟩).2 := rfl
  rw [hdef, h]

/-- A request sent whole on an idle link is its owner's action, then the reply (R194, R195). -/
theorem submitKind_of_linkIdle {k : ReqKind} {p : List Byte} {s : State} (tag : Byte) {t : Block} {r : Reply}
    (h : s.block.linkIdle = true) (hp : p.length = k.length) (hserve : s.block.awaiting.serveKind k p = (t, r)) :
    submitKind k tag p s = .next (s.withBlock (t.replied k tag r)) := by
  have hlen : p.length ≤ 248 := hp ▸ k.length_le.trans (by decide)
  have hs : s.block.awaiting.serve ⟨byte k.code, tag, p⟩ = (t, r) := by
    simp only [Block.serve, reqKindOf_code, if_pos hp, hserve]
  rw [submitKind, State.onBlock_next, s.block.submit_of_linkIdle _ h hlen, Block.answer_of_serve hs, State.withBlock]

/-- A request whose owner changes nothing is answered, and no more. -/
theorem answered_of_unchanged {o : Host.Outcome State Fault Refusal} {s : State} {k : ReqKind} {tag : Byte}
    {r : Reply} (h : s.block.linkIdle = true) (ho : o = .next (s.withBlock (s.block.awaiting.replied k tag r))) :
    o = .next (s.withBlock (s.block.place (replyFrame (byte k.code) tag r))) := by
  rw [ho, s.block.awaiting_replied h]

@[simp] theorem State.withBlock_block (s : State) (b : Block) : (s.withBlock b).block = b := rfl

end Sys2Proof.Machine
end

section
/-! The requests LINE START, LINE FEED, LINE STOP and LINE CEILING by line state (R5, R6, R15, R16, R19). -/

namespace Sys2Proof.Machine
open Sys2Proof

namespace Block
variable (b : Block)

/-- The line's records after an entry to WARMUP (R5, R15, R35, R98). -/
theorem enterWarmup_line (l : LineId) (feed : Bool) :
    ((b.enterWarmup l feed).line l).lsc = { (b.line l).lsc with
      state := .warmup, pendingConds := [], feedRequested := feed, burnout := 0 } ∧
    ((b.enterWarmup l feed).line l).gfu.load = 0 ∧ ((b.enterWarmup l feed).line l).gfu.ring = [] ∧
    ((b.enterWarmup l feed).line l).gfu.faults = 0 ∧
    ((b.enterWarmup l feed).line l).ccu.guard = 1100 ∧ ((b.enterWarmup l feed).line l).ccu.reagent = 1100 := by
  unfold enterWarmup
  obtain ⟨c, hg, -⟩ := (b.modLsc l fun x => { x with feedRequested := feed, burnout := 0 }).enter_gfu l .warmup
  obtain ⟨hguard, hreagent⟩ :=
    (b.modLsc l fun x => { x with feedRequested := feed, burnout := 0 }).enter_warmup_ceilings l
  rw [hg, enter_lsc, hguard, hreagent]
  simp [Gfu.enter]

/-- The line's records after an entry to RUNDOWN (R10, R35, R47). -/
theorem enterRundown_line (l : LineId) (c : RundownCause) :
    ((b.enterRundown l c).line l).lsc = { (b.line l).lsc with
      state := .rundown, pendingConds := [], cause := c, feedRequested := false, burnout := 0, hold := 0,
      limitDue := none } ∧
    ((b.enterRundown l c).line l).gfu = { (b.line l).gfu with load := 0, target := 0 }.abort := by
  unfold enterRundown
  rw [enter_lsc, enter_gfu_of_ne _ (by decide)]
  simp [Gfu.enter]

/-- The line's records after an entry to IDLE (R14, R35, R98, R109). -/
theorem enterIdle_line (l : LineId) :
    ((b.enterIdle l).line l).lsc = { (b.line l).lsc with
      state := .idle, pendingConds := [], feedRequested := false, burnout := 0, hold := 0 } ∧
    ((b.enterIdle l).line l).gfu.lastFiring = 0 ∧ ((b.enterIdle l).line l).ccu.demand = 0 ∧
    ((b.enterIdle l).line l).dau.episode = none := by
  unfold enterIdle
  rw [enter_lsc, enter_gfu_of_ne _ (by decide), enter_idle_demand, enter_idle_episode]
  simp [Gfu.enter]

end Block

/-! ## LINE START -/

theorem exec_lineStart {s : State} {l : LineId} (tag : Byte) {t : Block} {r : Reply} (h : s.block.linkIdle = true)
    (hserve : s.block.awaiting.serveLineStart l = (t, r)) :
    exec (.lineStart tag (byte (lineNumber l))) s = .next (s.withBlock (t.replied .lineStart tag r)) :=
  submitKind_of_linkIdle tag h rfl ((Block.onLine_byte _ l [] _).trans hserve)

/-- With every prerequisite of R5 met, LINE START takes an IDLE line to WARMUP. -/
theorem serveLineStart_enters {b : Block} {l : LineId} (hidle : (b.line l).lsc.state = .idle)
    (hmet : b.startUnmet l = none) : b.serveLineStart l = (b.enterWarmup l false, .done [byte 1]) := by
  simp [Block.serveLineStart, hidle, hmet, Block.lineDone, (b.enterWarmup_line l false).1, u8, LineState.code]

/-- The first prerequisite unmet is the detail of the refusal (R5). -/
theorem serveLineStart_refuses {b : Block} {l : LineId} {d : NotReadyDetail} (hidle : (b.line l).lsc.state = .idle)
    (hunmet : b.startUnmet l = some d) : b.serveLineStart l = (b, .refused .notReady d.number) := by
  simp [Block.serveLineStart, hidle, hunmet, notReady]

/-- The allowance is restored for the year of a RUNNING clock alone (R113). -/
theorem running_of_allowanceRestored {b : Block} {l : LineId} (h : b.allowanceRestored l = true) :
    b.running = true := by
  unfold Block.allowanceRestored at h
  unfold Block.running
  cases ht : b.clock.time with
  | none => simp [ht] at h
  | some t => rfl

/-- LINE START with its prerequisites met (R5). -/
theorem lineStart_enters (s : State) (tag : Byte) (l : LineId) (h : s.block.linkIdle = true)
    (hidle : (s.block.line l).lsc.state = .idle) (hmet : s.block.startUnmet l = none) :
    ∃ t, exec (.lineStart tag (byte (lineNumber l))) s = .next t ∧ t.pending = s.pending ∧
      (t.block.line l).lsc.state = .warmup ∧ (t.block.line l).lsc.feedRequested = false ∧
      (t.block.line l).gfu.load = 0 ∧ (t.block.line l).gfu.ring = [] ∧
      (t.block.line l).ccu.guard = 1100 ∧ (t.block.line l).ccu.reagent = 1100 ∧
      s.block.onlyLine t.block l ∧ s.block.onlyReplied t.block .lineStart tag (.done [byte 1]) := by
  obtain ⟨hlsc, hload, hring, -, hguard, hreagent⟩ := s.block.awaiting.enterWarmup_line l false
  refine ⟨_, exec_lineStart tag h (serveLineStart_enters hidle hmet), rfl, ?_⟩
  simp only [State.withBlock_block, Block.replied_line, hlsc, hload, hring, hguard, hreagent, true_and]
  exact ⟨s.block.replied_onlyLine (Block.enterWarmup_onlyLine _ l false) _ _ _,
    s.block.replied_onlyReplied h (Block.enterWarmup_reportsKept _ l false) _ _ _⟩

/-- Settles O10: the state and the prerequisites, tested in the order of R5, decide LINE START. -/
theorem lineStartEntersWarmupOrSaysWhy : Obligations.LineStartEntersWarmupOrSaysWhy := by
  unfold Obligations.LineStartEntersWarmupOrSaysWhy
  refine ⟨fun s tag l h hidle hrun hall hfeed hfurn hdos han => lineStart_enters s tag l h hidle ?_,
    fun s tag l h => ?_⟩
  · simpa [Block.startUnmet, hrun, hall, hfeed, hfurn, hdos, or_iff_not_imp_left] using han
  · have refusal (d : NotReadyDetail) (hidle : (s.block.line l).lsc.state = .idle)
        (hunmet : s.block.startUnmet l = some d) :
        exec (.lineStart tag (byte (lineNumber l))) s =
          .next (s.withBlock (s.block.repliedRefused .lineStart tag .notReady d.number)) :=
      answered_of_unchanged h (exec_lineStart tag h (serveLineStart_refuses hidle hunmet))
    refine ⟨fun hst => ?_, fun hidle => ⟨fun hrun => ?_, fun hrun hall => ?_, fun hall hf => ?_,
      fun hall hf hu => ?_, fun hall hf hu hd => ?_, fun hall hf hu hd ha hb => ?_⟩, fun hst => ?_⟩
    · exact answered_of_unchanged h (exec_lineStart tag h
        (by simp [Block.serveLineStart, Block.awaiting_line, hst, refuse]))
    · exact refusal .clock hidle (by simp [Block.startUnmet, hrun])
    · exact refusal .allowance hidle (by simp [Block.startUnmet, hrun, hall])
    · exact refusal .feederRole hidle (by simp [Block.startUnmet, running_of_allowanceRestored hall, hall, hf])
    · exact refusal .furnaceRole hidle (by simp [Block.startUnmet, running_of_allowanceRestored hall, hall, hf, hu])
    · exact refusal .dosingRole hidle
        (by simp [Block.startUnmet, running_of_allowanceRestored hall, hall, hf, hu, hd])
    · exact refusal .analyzerRole hidle
        (by simp [Block.startUnmet, running_of_allowanceRestored hall, hall, hf, hu, hd, ha, hb])
    · exact answered_of_unchanged h (exec_lineStart tag h (by
        rcases hst with hst | hst | hst <;>
          simp [Block.serveLineStart, Block.awaiting_line, hst, Block.lineDone, u8]))

/-! ## LINE FEED -/

theorem exec_lineFeed {s : State} {l : LineId} (tag : Byte) {t : Block} {r : Reply} (h : s.block.linkIdle = true)
    (hserve : s.block.awaiting.serveLineFeed l = (t, r)) :
    exec (.lineFeed tag (byte (lineNumber l))) s = .next (s.withBlock (t.replied .lineFeed tag r)) :=
  submitKind_of_linkIdle tag h rfl ((Block.onLine_byte _ l [] _).trans hserve)

/-- In WARMUP with FEED-STOP released LINE FEED sets feed requested (R6). -/
theorem serveLineFeed_warmup {b : Block} {l : LineId} (hst : (b.line l).lsc.state = .warmup)
    (hstop : b.feedStop = false) :
    b.serveLineFeed l = (b.modLsc l fun x => { x with feedRequested := true }, .done [byte 1]) := by
  simp [Block.serveLineFeed, hst, hstop, Block.lineDone, u8, LineState.code]

/-- LINE FEED with no refusal of R15 returns a line from RUNDOWN to WARMUP. -/
theorem serveLineFeed_returns {b : Block} {l : LineId} (hst : (b.line l).lsc.state = .rundown)
    (hfree : b.returnRefused l = none) : b.serveLineFeed l = (b.enterWarmup l true, .done [byte 1]) := by
  simp [Block.serveLineFeed, hst, hfree, Block.lineDone, (b.enterWarmup_line l true).1, u8, LineState.code]

/-- LINE FEED in RUNDOWN is refused as R15 says. -/
theorem serveLineFeed_refuses {b : Block} {l : LineId} {c : RefusalCode} (hst : (b.line l).lsc.state = .rundown)
    (hc : b.returnRefused l = some c) : b.serveLineFeed l = (b, .refused c 0) := by
  simp [Block.serveLineFeed, hst, hc, refuse]

/-- LINE FEED in WARMUP, on any machine whose link is idle and whose FEED-STOP is released (R6). -/
theorem lineFeed_warmup (s : State) (tag : Byte) (l : LineId) (h : s.block.linkIdle = true)
    (hstop : s.block.feedStop = false) (hst : (s.block.line l).lsc.state = .warmup) :
    exec (.lineFeed tag (byte (lineNumber l))) s = .next (s.withBlock
      ((s.block.modLsc l fun x => { x with feedRequested := true }).repliedDone .lineFeed tag [byte 1])) := by
  rw [exec_lineFeed tag h (serveLineFeed_warmup hst hstop)]
  exact congrArg (fun b => Host.Outcome.next (s.withBlock b))
    (Block.awaiting_replied (s.block.modLsc l fun x => { x with feedRequested := true }) h .lineFeed tag
      (.done [byte 1]))

/-- The return from RUNDOWN to WARMUP (R15). -/
theorem lineFeed_returns (s : State) (tag : Byte) (l : LineId) (h : s.block.linkIdle = true)
    (hst : (s.block.line l).lsc.state = .rundown) (hfree : s.block.returnRefused l = none) :
    ∃ t, exec (.lineFeed tag (byte (lineNumber l))) s = .next t ∧
      (t.block.line l).lsc.state = .warmup ∧ (t.block.line l).lsc.feedRequested = true ∧
      (t.block.line l).lsc.burnout = 0 ∧ (t.block.line l).gfu.faults = 0 ∧
      s.block.onlyLine t.block l ∧ s.block.onlyReplied t.block .lineFeed tag (.done [byte 1]) := by
  obtain ⟨hlsc, -, -, hfaults, -, -⟩ := s.block.awaiting.enterWarmup_line l true
  refine ⟨_, exec_lineFeed tag h (serveLineFeed_returns hst hfree), ?_⟩
  simp only [State.withBlock_block, Block.replied_line, hlsc, hfaults, true_and]
  exact ⟨s.block.replied_onlyLine (Block.enterWarmup_onlyLine _ l true) _ _ _,
    s.block.replied_onlyReplied h (Block.enterWarmup_reportsKept _ l true) _ _ _⟩

/-- LINE FEED refused by the state or by FEED-STOP, or DONE with no change (R6). -/
theorem serveLineFeed_unchanged (b : Block) (l : LineId) :
    ((b.line l).lsc.state = .idle → b.serveLineFeed l = (b, .refused .wrongState 0)) ∧
    ((b.line l).lsc.state = .warmup ∨ (b.line l).lsc.state = .rundown → b.feedStop = true →
      b.serveLineFeed l = (b, .refused .inhibited 0)) ∧
    ((b.line l).lsc.state = .firing ∨ (b.line l).lsc.state = .hold →
      b.serveLineFeed l = (b, .done [byte (b.line l).lsc.state.code])) := by
  refine ⟨fun hst => by simp [Block.serveLineFeed, hst, refuse], fun hst hstop => ?_, fun hst => ?_⟩
  · rcases hst with hst | hst <;> simp [Block.serveLineFeed, hst, hstop, refuse, Block.returnRefused]
  · rcases hst with hst | hst <;> simp [Block.serveLineFeed, hst, Block.lineDone, u8]

/-- Settles O11: the line's state, FEED-STOP and the refusals of R15 decide LINE FEED. -/
theorem lineFeedRequestsFeedOrSaysWhy : Obligations.LineFeedRequestsFeedOrSaysWhy := by
  unfold Obligations.LineFeedRequestsFeedOrSaysWhy
  refine ⟨fun s tag l h hstop => ⟨lineFeed_warmup s tag l h hstop, fun hst hepi hall => ?_⟩, fun s tag l h => ?_⟩
  · refine lineFeed_returns s tag l h hst ?_
    have hopen : ¬((s.block.line l).lsc.cause = .episodeLimit ∧ (s.block.line l).dau.episode.isSome = true) :=
      fun ⟨hc, he⟩ => by simp [hepi hc] at he
    have hused : ¬((s.block.line l).lsc.cause = .allowance ∧ Config.allowance ≤ (s.block.line l).dau.used) :=
      fun ⟨hc, hu⟩ => absurd (hall hc) (not_lt.2 hu)
    simp only [Block.returnRefused, hstop, Bool.false_eq_true, if_false, if_neg hopen, if_neg hused]
  · obtain ⟨hidle, hinhibited, hdone⟩ := serveLineFeed_unchanged s.block.awaiting l
    have refusal (c : RefusalCode) (hst : (s.block.line l).lsc.state = .rundown)
        (hc : s.block.returnRefused l = some c) :
        exec (.lineFeed tag (byte (lineNumber l))) s =
          .next (s.withBlock (s.block.repliedRefused .lineFeed tag c 0)) :=
      answered_of_unchanged h (exec_lineFeed tag h (serveLineFeed_refuses hst hc))
    refine ⟨fun hst => ?_, fun hst hstop => ?_, fun hst hstop hcause he => ?_, fun hst hstop hcause hused => ?_,
      fun hst => ?_⟩
    · exact answered_of_unchanged h (exec_lineFeed tag h (hidle hst))
    · exact answered_of_unchanged h (exec_lineFeed tag h (hinhibited hst hstop))
    · exact refusal .causeOpen hst (by simp [Block.returnRefused, hstop, hcause, Option.isSome_iff_ne_none, he])
    · exact refusal .exhausted hst (by simp [Block.returnRefused, hstop, hcause, Config.allowance, hused])
    · exact answered_of_unchanged h (exec_lineFeed tag h (hdone hst))

/-! ## LINE STOP -/

theorem exec_lineStop {s : State} {l : LineId} (tag : Byte) {t : Block} {r : Reply} (h : s.block.linkIdle = true)
    (hserve : s.block.awaiting.serveLineStop l = (t, r)) :
    exec (.lineStop tag (byte (lineNumber l))) s = .next (s.withBlock (t.replied .lineStop tag r)) :=
  submitKind_of_linkIdle tag h rfl ((Block.onLine_byte _ l [] _).trans hserve)

/-- What LINE STOP does in each state (R16). -/
theorem serveLineStop_by_state (b : Block) (l : LineId) :
    ((b.line l).lsc.state = .idle → b.serveLineStop l = (b, .done [byte 0])) ∧
    ((b.line l).lsc.state = .rundown → b.serveLineStop l = (b, .done [byte 4])) ∧
    ((b.line l).lsc.state = .warmup → b.serveLineStop l = (b.enterIdle l, .done [byte 0])) ∧
    ((b.line l).lsc.state = .firing ∨ (b.line l).lsc.state = .hold →
      b.serveLineStop l = (b.enterRundown l .host, .done [byte 4])) := by
  refine ⟨fun hst => ?_, fun hst => ?_, fun hst => ?_, fun hst => ?_⟩
  · simp [Block.serveLineStop, hst, Block.lineDone, u8, LineState.code]
  · simp [Block.serveLineStop, hst, Block.lineDone, u8, LineState.code]
  · simp [Block.serveLineStop, hst, Block.lineDone, (b.enterIdle_line l).1, u8, LineState.code]
  · rcases hst with hst | hst <;>
      simp [Block.serveLineStop, hst, Block.lineDone, (b.enterRundown_line l .host).1, u8, LineState.code]

/-- Settles O12: LINE STOP changes nothing in IDLE and RUNDOWN, ends WARMUP in IDLE, and takes a line in service to
RUNDOWN with the cause HOST. -/
theorem lineStopByState : Obligations.LineStopByState := by
  unfold Obligations.LineStopByState
  intro s tag l h i
  obtain ⟨hidle, hrundown, hwarmup, hservice⟩ := serveLineStop_by_state s.block.awaiting l
  refine ⟨fun hst => ?_, fun hst => ?_, fun hst => ?_, fun hst => ?_⟩
  · exact answered_of_unchanged h (exec_lineStop tag h (hidle hst))
  · exact answered_of_unchanged h (exec_lineStop tag h (hrundown hst))
  · obtain ⟨hlsc, -, hdemand, hepisode⟩ := s.block.awaiting.enterIdle_line l
    refine ⟨_, exec_lineStop tag h (hwarmup hst), ?_⟩
    simp only [State.withBlock_block, Block.replied_line, hlsc, hdemand, hepisode, true_and]
    exact ⟨s.block.replied_onlyLine (Block.enterIdle_onlyLine _ l) _ _ _, Block.replied_lastReply _ _ _ _⟩
  · obtain ⟨hlsc, hgfu⟩ := s.block.awaiting.enterRundown_line l .host
    refine ⟨_, exec_lineStop tag h (hservice hst), ?_⟩
    simp only [State.withBlock_block, Block.replied_line, hlsc, hgfu, Gfu.abort, Gfu.command, Block.awaiting_line,
      if_true, true_and]
    exact ⟨s.block.replied_onlyLine (Block.enterRundown_onlyLine _ l .host) _ _ _,
      s.block.replied_onlyReplied h (Block.enterRundown_reportsKept _ l .host) _ _ _⟩

/-! ## LINE CEILING -/

/-- A two-byte field behind the first byte of a payload reads back as the host sent it (R191). -/
theorem field_wire16 (x : Byte) (v : Word16) (p : List Byte) : field (x :: (wire16 v ++ p)) 1 2 = v.toNat := by
  have hv := v.isLt
  simp [field, wire16, u16, leNat, byte]
  omega

/-- The line's records after a write of the host ceiling (R19, R97): in FIRING a load within the ceiling before is
clamped to the ceiling after. -/
theorem Block.setHostCeiling_line (b : Block) (l : LineId) (v : Nat) :
    ((b.setHostCeiling l v).line l).ccu.host = v ∧
    ((b.setHostCeiling l v).line l).ccu.effective = ((b.setHostCeiling l v).line l).ccu.leastTerm ∧
    ((b.setHostCeiling l v).line l).lsc = (b.line l).lsc ∧ ((b.setHostCeiling l v).line l).dau = (b.line l).dau ∧
    ((b.line l).lsc.state = .firing → (b.line l).gfu.load ≤ (b.line l).ccu.effective →
      ((b.setHostCeiling l v).line l).gfu.load =
        min (b.line l).gfu.load ((b.setHostCeiling l v).line l).ccu.effective) := by
  simp only [Block.setHostCeiling, Block.recompute_line, Block.modCcu_line_self, Ccu.leastTerm, true_and]
  intro hst hload
  split
  · next heq => rw [heq, min_eq_left hload]
  · unfold Gfu.takeCeiling
    split
    · next hlow =>
      simp only [Bool.and_eq_true, decide_eq_true_eq] at hlow
      exact (min_eq_right hlow.2.le).symm
    · next hlow =>
      simp only [hst, beq_self_eq_true, Bool.true_and, decide_eq_true_eq, not_lt] at hlow
      exact (min_eq_left hlow).symm

/-- Settles O13: the write of the host ceiling recomputes the effective ceiling, and the GFU takes it. -/
theorem lineCeilingClampsAtOnce : Obligations.LineCeilingClampsAtOnce := by
  unfold Obligations.LineCeilingClampsAtOnce
  intro s tag l v h
  have hserve : s.block.awaiting.serveKind .lineCeiling (byte (lineNumber l) :: wire16 v) =
      (s.block.awaiting.setHostCeiling l (min v.toNat 1100), .done (u16 (min v.toNat 1100))) := by
    refine (Block.onLine_byte _ l _ _).trans ?_
    rw [← List.append_nil (wire16 v), field_wire16]
    rfl
  obtain ⟨hhost, heff, hlsc, hdau, hload⟩ := s.block.awaiting.setHostCeiling_line l (min v.toNat 1100)
  refine ⟨_, submitKind_of_linkIdle tag h rfl hserve, ?_⟩
  simp only [State.withBlock_block, Block.replied_line]
  exact ⟨hhost, heff, hlsc, hdau, hload,
    s.block.replied_onlyLine (Block.setHostCeiling_onlyLine _ l _) _ _ _,
    s.block.replied_onlyReplied h (by simp [Block.reportsKept]) _ _ _⟩

end Sys2Proof.Machine
end

section
/-! LINE DECLARE: the DECLARED cause set and cleared, with the episode it opens or closes (R20, R96, R103, R109). -/

namespace Sys2Proof.Machine
open Sys2Proof

theorem Causes.union_empty (c : Causes) : c.union ⟨false, false, false⟩ = c := by
  simp [Causes.union]

namespace Block
variable (b : Block)

@[simp] theorem causesStored_line (l : LineId) (new : Causes) : (b.causesStored l new).line l = { b.line l with
    dau := { (b.line l).dau with
      causes := new
      episode := (b.line l).dau.episode.map fun e => { e with causesSeen := e.causesSeen.union new } } } := by
  simp [causesStored]

theorem takeCauses_notices (l : LineId) (c : Causes) : (b.takeCauses l c).notices = b.notices := by simp

theorem takeCauses_rcs (l : LineId) (c : Causes) : (b.takeCauses l c).rcs = b.rcs := by simp

/-- An episode opened is told with the causes present (R103). -/
theorem openEpisode_pendingWith (l : LineId) :
    (b.openEpisode l).pendingWith .deviationOpen (lineNumber l) [byte (b.line l).dau.causes.bits] :=
  raise_pendingWith _ _ _ _

/-- An episode closed is told with the reason (R109). -/
theorem closeEpisode_pendingWith {l : LineId} (r : CloseReason) {e : Episode} (h : (b.line l).dau.episode = some e) :
    (b.closeEpisode l r).pendingWith .deviationClosed (lineNumber l) [byte r.code] := by
  unfold closeEpisode
  rw [h]
  exact raise_pendingWith _ _ _ _

/-- The record of an episode closed is the newest (R110). -/
theorem closeEpisode_newest {l : LineId} (r : CloseReason) {e : Episode} (h : (b.line l).dau.episode = some e) :
    (b.closeEpisode l r).rcs.records.getLast? =
      some ⟨b.rcs.nextSerial, l, .episode (b.episodeRecord l e r)⟩ := by
  unfold closeEpisode
  rw [h]
  simp [enterRecord_newest]

/-- A set stored and taken by the CCU, with no episode opened or closed (R96, R102). -/
theorem causesStored_takeCauses (l : LineId) (new : Causes) :
    let t := (b.causesStored l new).takeCauses l new
    (t.line l).lsc = (b.line l).lsc ∧
    (t.line l).dau = { (b.line l).dau with
      causes := new
      episode := (b.line l).dau.episode.map fun e => { e with causesSeen := e.causesSeen.union new } } ∧
    (t.line l).ccu.deviation = (if new.isEmpty then 1100 else (b.lineParams l).deviationCeil) ∧
    (t.line l).ccu.effective = (t.line l).ccu.leastTerm ∧ b.onlyLine t l ∧ b.reportsKept t := by
  obtain ⟨hlsc, hdau, hdev, heff⟩ := (b.causesStored l new).takeCauses_line l new
  refine ⟨?_, ?_, hdev, heff, onlyLine_trans (causesStored_onlyLine b l new) (takeCauses_onlyLine _ l new), ?_⟩
  · rw [hlsc, causesStored_line]
  · rw [hdau, causesStored_line]
  · simp [reportsKept, causesStored]

/-- An episode opened by the first cause of a line in service (R96, R103). -/
theorem causesStored_openEpisode (l : LineId) (new : Causes) :
    let t := ((b.causesStored l new).openEpisode l).takeCauses l new
    (t.line l).lsc = (b.line l).lsc ∧
    (t.line l).dau = { (b.line l).dau with causes := new, episode := some ⟨b.now, new, 0, .none⟩ } ∧
    (t.line l).ccu.deviation = (if new.isEmpty then 1100 else (b.lineParams l).deviationCeil) ∧
    (t.line l).ccu.effective = (t.line l).ccu.leastTerm ∧
    t.pendingWith .deviationOpen (lineNumber l) [byte new.bits] ∧ t.rcs = b.rcs ∧ b.onlyLine t l := by
  obtain ⟨hlsc, hdau, hdev, heff⟩ := ((b.causesStored l new).openEpisode l).takeCauses_line l new
  refine ⟨?_, ?_, ?_, heff, ?_, by simp [causesStored],
    onlyLine_trans (onlyLine_trans (causesStored_onlyLine b l new) (openEpisode_onlyLine _ l))
      (takeCauses_onlyLine _ l new)⟩
  · rw [hlsc, openEpisode_line, causesStored_line]
  · rw [hdau, openEpisode_line, causesStored_line]
    rfl
  · rw [hdev]
    simp [lineParams, causesStored]
  · refine (pendingWith_congr (takeCauses_notices _ l new)).2 ?_
    simpa using (b.causesStored l new).openEpisode_pendingWith l

/-- An episode closed as the last cause goes (R96, R109, R110). -/
theorem causesStored_closeEpisode {l : LineId} {e : Episode} (he : (b.line l).dau.episode = some e) :
    let t := ((b.causesStored l ⟨false, false, false⟩).closeEpisode l .cleared).takeCauses l ⟨false, false, false⟩
    (t.line l).dau = { (b.line l).dau with
      causes := ⟨false, false, false⟩
      episode := none
      last := some ⟨.cleared, e.minutes, b.now⟩
      closed := satAdd Config.max16 (b.line l).dau.closed 1 } ∧
    (t.line l).ccu.deviation = 1100 ∧
    t.rcs.records.getLast? = some ⟨b.rcs.nextSerial, l, .episode (b.episodeRecord l e .cleared)⟩ ∧
    t.pendingWith .deviationClosed (lineNumber l) [byte 0] ∧ b.onlyLine t l := by
  have hstored : ((b.causesStored l ⟨false, false, false⟩).line l).dau.episode = some e := by
    simp [he, Causes.union_empty]
  obtain ⟨-, hdau, hdev, -⟩ := ((b.causesStored l ⟨false, false, false⟩).closeEpisode l .cleared).takeCauses_line l
    ⟨false, false, false⟩
  refine ⟨?_, hdev, ?_, ?_,
    onlyLine_trans (onlyLine_trans (causesStored_onlyLine b l _) (closeEpisode_onlyLine _ l _))
      (takeCauses_onlyLine _ l _)⟩
  · rw [hdau, closeEpisode_line _ _ hstored, causesStored_line]
    rfl
  · rw [takeCauses_rcs, closeEpisode_newest _ _ hstored, episodeRecord,
      causesStored_line]
    rfl
  · exact (pendingWith_congr (takeCauses_notices _ l _)).2 (closeEpisode_pendingWith _ _ hstored)

end Block

/-- LINE DECLARE gives the DAU the DECLARED cause, present after a SET and absent after a CLEAR (R20). -/
theorem exec_lineDeclare {s : State} {l : LineId} (tag : Byte) (set : Bool) {t : Block} {c : Causes}
    (h : s.block.linkIdle = true) (hset : s.block.awaiting.setCause l .declared set = t)
    (hc : (t.line l).dau.causes = c) :
    exec (.lineDeclare tag (byte (lineNumber l)) (byte (if set then 0 else 1))) s =
      .next (s.withBlock (t.replied .lineDeclare tag (.done [byte c.bits]))) := by
  refine submitKind_of_linkIdle tag h rfl ((Block.onLine_byte _ l _ _).trans ?_)
  subst hset hc
  cases set <;> rfl

/-- LINE DECLARE that leaves the set as it was changes nothing (R20). -/
theorem lineDeclare_unchanged {s : State} {l : LineId} (tag : Byte) {set : Bool} (h : s.block.linkIdle = true)
    (hd : (s.block.line l).dau.causes.declared = set) :
    exec (.lineDeclare tag (byte (lineNumber l)) (byte (if set then 0 else 1))) s =
      .next (s.withBlock (s.block.repliedDone .lineDeclare tag [byte (s.block.line l).dau.causes.bits])) :=
  answered_of_unchanged h (exec_lineDeclare tag set h
    (Block.setCause_self _ (by subst hd; rfl)) rfl)

/-- LINE DECLARE that changes the set, with no episode opened or closed (R20). -/
theorem lineDeclare_stores {s : State} {l : LineId} (tag : Byte) {set : Bool} {new : Causes}
    (h : s.block.linkIdle = true)
    (ht : s.block.awaiting.setCause l .declared set = (s.block.awaiting.causesStored l new).takeCauses l new) :
    ∃ t, exec (.lineDeclare tag (byte (lineNumber l)) (byte (if set then 0 else 1))) s = .next t ∧
      (t.block.line l).lsc = (s.block.line l).lsc ∧
      (t.block.line l).dau = { (s.block.line l).dau with
        causes := new
        episode := (s.block.line l).dau.episode.map fun e => { e with causesSeen := e.causesSeen.union new } } ∧
      (t.block.line l).ccu.deviation = (if new.isEmpty then 1100 else (s.block.lineParams l).deviationCeil) ∧
      (t.block.line l).ccu.effective = (t.block.line l).ccu.leastTerm ∧ s.block.onlyLine t.block l ∧
      s.block.onlyReplied t.block .lineDeclare tag (.done [byte new.bits]) := by
  obtain ⟨hlsc, hdau, hdev, heff, hline, hreports⟩ := s.block.awaiting.causesStored_takeCauses l new
  refine ⟨_, exec_lineDeclare tag set h ht (congrArg Dau.causes hdau), ?_⟩
  simp only [State.withBlock_block, Block.replied_line]
  exact ⟨hlsc, hdau, hdev, heff, s.block.replied_onlyLine hline _ _ _,
    s.block.replied_onlyReplied h hreports _ _ _⟩

/-- A SET that is the first cause of a line in service with no episode open (R20, R103). -/
theorem lineDeclare_opens (s : State) (tag : Byte) (l : LineId) (h : s.block.linkIdle = true)
    (hs : s.block.inService l = true) (hcauses : (s.block.line l).dau.causes = ⟨false, false, false⟩)
    (he : (s.block.line l).dau.episode = none) :
    ∃ t, exec (.lineDeclare tag (byte (lineNumber l)) (byte 0)) s = .next t ∧
      (t.block.line l).dau.causes = ⟨false, false, true⟩ ∧
      (t.block.line l).dau.episode = some ⟨s.block.now, ⟨false, false, true⟩, 0, .none⟩ ∧
      (t.block.line l).ccu.deviation = (s.block.lineParams l).deviationCeil ∧
      (t.block.line l).ccu.effective = (t.block.line l).ccu.leastTerm ∧
      (t.block.line l).lsc = (s.block.line l).lsc ∧
      t.block.pendingWith .deviationOpen (lineNumber l) [byte 4] ∧ t.block.rcs = s.block.rcs ∧
      s.block.onlyLine t.block l ∧ t.block.lastReply .lineDeclare tag (.done [byte 4]) := by
  have hset : s.block.awaiting.setCause l .declared true =
      ((s.block.awaiting.causesStored l ⟨false, false, true⟩).openEpisode l).takeCauses l ⟨false, false, true⟩ :=
    Block.setCause_opens _ (by rw [Block.awaiting_line, hcauses]; rfl) (by rw [Block.awaiting_line, hcauses]; rfl)
      rfl hs he
  obtain ⟨hlsc, hdau, hdev, heff, hpending, hrcs, hline⟩ :=
    s.block.awaiting.causesStored_openEpisode l ⟨false, false, true⟩
  refine ⟨_, exec_lineDeclare tag true h hset (congrArg Dau.causes hdau), ?_⟩
  simp only [State.withBlock_block, Block.replied_line, Block.replied_rcs]
  exact ⟨congrArg Dau.causes hdau, congrArg Dau.episode hdau, hdev, heff, hlsc,
    (Block.pendingWith_congr (Block.replied_notices _ _ _ _)).2 hpending, hrcs,
    s.block.replied_onlyLine hline _ _ _, Block.replied_lastReply _ _ _ _⟩

/-- A CLEAR of the only cause with an episode open (R20, R109, R110). -/
theorem lineDeclare_closes (s : State) (tag : Byte) (l : LineId) (h : s.block.linkIdle = true) (e : Episode)
    (hcauses : (s.block.line l).dau.causes = ⟨false, false, true⟩) (he : (s.block.line l).dau.episode = some e) :
    ∃ t, exec (.lineDeclare tag (byte (lineNumber l)) (byte 1)) s = .next t ∧
      (t.block.line l).dau.causes = ⟨false, false, false⟩ ∧ (t.block.line l).dau.episode = none ∧
      (t.block.line l).dau.last = some ⟨.cleared, e.minutes, s.block.now⟩ ∧
      (t.block.line l).dau.closed = min 65535 ((s.block.line l).dau.closed + 1) ∧
      (t.block.line l).dau.used = (s.block.line l).dau.used ∧
      (t.block.line l).ccu.deviation = 1100 ∧
      t.block.rcs.records.getLast? = some ⟨s.block.rcs.nextSerial, l, .episode
        ⟨e.openStamp, s.block.now, e.minutes, e.causesSeen, .cleared, e.limit,
          (s.block.line l).dau.used, (s.block.line l).dau.restoredYear⟩⟩ ∧
      t.block.pendingWith .deviationClosed (lineNumber l) [byte 0] ∧
      s.block.onlyLine t.block l ∧ t.block.lastReply .lineDeclare tag (.done [byte 0]) := by
  have hset : s.block.awaiting.setCause l .declared false =
      ((s.block.awaiting.causesStored l ⟨false, false, false⟩).closeEpisode l .cleared).takeCauses l
        ⟨false, false, false⟩ :=
    Block.setCause_closes _ (by rw [Block.awaiting_line, hcauses]; rfl) (by rw [Block.awaiting_line, hcauses]; rfl) rfl
  obtain ⟨hdau, hdev, hrecord, hpending, hline⟩ := s.block.awaiting.causesStored_closeEpisode he
  refine ⟨_, exec_lineDeclare tag false h hset (congrArg Dau.causes hdau), ?_⟩
  simp only [State.withBlock_block, Block.replied_line, Block.replied_rcs]
  exact ⟨congrArg Dau.causes hdau, congrArg Dau.episode hdau, congrArg Dau.last hdau, congrArg Dau.closed hdau,
    by rw [hdau]; rfl, hdev, hrecord, (Block.pendingWith_congr (Block.replied_notices _ _ _ _)).2 hpending,
    s.block.replied_onlyLine hline _ _ _, Block.replied_lastReply _ _ _ _⟩

/-- Settles O14: a declared deviation opens an episode as the first cause, closes it as the last, and otherwise joins
or leaves the set. -/
theorem declaredDeviationOpensAndCloses : Obligations.DeclaredDeviationOpensAndCloses := by
  unfold Obligations.DeclaredDeviationOpensAndCloses
  refine ⟨fun s tag l h => ⟨lineDeclare_opens s tag l h, fun habsent hmore => ?_, lineDeclare_unchanged tag h⟩,
    fun s tag l h => ⟨lineDeclare_closes s tag l h, fun hcauses he => ?_, fun an dos hmore hcauses => ?_,
      lineDeclare_unchanged tag h⟩⟩
  · have hnew : ((s.block.line l).dau.causes.put .declared true).isEmpty = false := by
      simp [Causes.put, Causes.isEmpty]
    have hne : ((s.block.line l).dau.causes.put .declared true) ≠ (s.block.line l).dau.causes :=
      fun heq => by simpa [habsent, Causes.put] using congrArg Causes.declared heq
    obtain ⟨t, ht, -, hdau, hdev, heff, hline, hreply⟩ := lineDeclare_stores (l := l)
      (new := (s.block.line l).dau.causes.put .declared true) tag (set := true) h
      (Block.setCause_stores _ rfl hne (fun hempty => hmore.imp id fun hsome => absurd hempty (by
        rw [Block.awaiting_line, hsome]; decide)) fun _ => hnew)
    rw [hnew] at hdev
    exact ⟨t, ht, hdau, hdev, heff, hline, hreply⟩
  · have hset : s.block.awaiting.setCause l .declared false =
        (s.block.awaiting.causesStored l ⟨false, false, false⟩).takeCauses l ⟨false, false, false⟩ := by
      rw [Block.setCause_closes _ (new := ⟨false, false, false⟩) (by rw [Block.awaiting_line, hcauses]; rfl)
        (by rw [Block.awaiting_line, hcauses]; rfl) rfl, Block.closeEpisode_of_none]
      simp [Block.awaiting_line, he]
    obtain ⟨t, ht, hlsc, hdau, hdev, heff, hline, hreply⟩ := lineDeclare_stores tag (set := false) h hset
    exact ⟨t, ht, by simpa [he] using hdau, hdev, heff, hlsc, hline, hreply⟩
  · have hnew : (⟨an, dos, false⟩ : Causes).isEmpty = false := by rcases hmore with rfl | rfl <;> simp [Causes.isEmpty]
    obtain ⟨t, ht, hlsc, hdau, hdev, heff, hline, hreply⟩ := lineDeclare_stores (l := l) (new := ⟨an, dos, false⟩)
      tag (set := false) h (Block.setCause_stores _ (by rw [Block.awaiting_line, hcauses]; rfl)
        (by rw [Block.awaiting_line, hcauses]; simp)
        (by rw [Block.awaiting_line, hcauses]; simp [Causes.isEmpty]) fun _ => hnew)
    rw [hnew] at hdev
    exact ⟨t, ht, hdau, hdev, heff, hlsc, hline, hreply⟩

end Sys2Proof.Machine
end

section
/-! The transitions tested at a second tick, each as its own command (R7, R9, R14), and FEED-STOP (R17, R18). -/

namespace Sys2Proof.Machine
open Sys2Proof

namespace Block
variable (b : Block)

/-! ## The firing conditions and the entry to FIRING (R7, R35) -/

theorem unmetConds_eq_nil_iff (l : LineId) : b.unmetConds l = [] ↔ ∀ c, b.condHolds l c = true := by
  have hall : ∀ c : FiringCond, c ∈ allFiringConds := fun c => by cases c <;> decide
  simp [unmetConds, List.filter_eq_nil_iff, hall]

theorem condHolds_temperature (l : LineId) :
    b.condHolds l .temperature = decide ((b.lineParams l).confirmTime ≤ (b.line l).lsc.confirm) := rfl

theorem tryFire_of_ne {l : LineId} (h : (b.line l).lsc.state ≠ .warmup) : b.tryFire l = b := if_neg h

theorem tryFire_met {l : LineId} (h : (b.line l).lsc.state = .warmup) (hmet : ∀ c, b.condHolds l c = true) :
    b.tryFire l = b.enter l .firing := by
  rw [tryFire, if_pos h, if_pos ((b.unmetConds_eq_nil_iff l).2 hmet)]

theorem tryFire_unmet {l : LineId} (h : (b.line l).lsc.state = .warmup) (hunmet : ∃ c, b.condHolds l c = false) :
    b.tryFire l = b.modLsc l fun x => { x with pendingConds := b.unmetConds l } := by
  obtain ⟨c, hc⟩ := hunmet
  rw [tryFire, if_pos h, if_neg fun hnil => by simp [(b.unmetConds_eq_nil_iff l).1 hnil c] at hc]

/-- The records of a line that enters FIRING (R7, R35). -/
theorem enter_firing_line (l : LineId) :
    ((b.enter l .firing).line l).lsc = { (b.line l).lsc with state := .firing, pendingConds := [] } ∧
    ((b.enter l .firing).line l).gfu = { (b.line l).gfu with
      load := min (b.lineParams l).minLoad (b.line l).gfu.ceiling
      lastFiring := min (b.lineParams l).minLoad (b.line l).gfu.ceiling
      acc := 0
      latch := false } :=
  ⟨b.enter_lsc l _, b.enter_gfu_of_ne (by decide)⟩

/-! ## The ends of HOLD and RUNDOWN (R9, R14) -/

/-- Only an entry to IDLE can enter a record (R103, R109). -/
theorem enter_rcs {l : LineId} {st : LineState} (h : st ≠ .idle) : (b.enter l st).rcs = b.rcs := by
  refine Eq.trans ?_ (b.entered_reportsKept l st).2.1
  rw [enter_eq]
  cases st with
  | idle => exact absurd rfl h
  | warmup | rundown => rfl
  | firing | hold => unfold dauEnter; dsimp only; split <;> simp

theorem tryHoldReturn_returns {l : LineId} (hst : (b.line l).lsc.state = .hold)
    (hc : (b.lineParams l).confirmTime ≤ (b.line l).lsc.confirm) :
    b.tryHoldReturn l = (b.modLsc l fun x => { x with hold := 0 }).enter l .firing :=
  if_pos ⟨hst, by simpa [condHolds_temperature] using hc⟩

theorem tryHoldReturn_short {l : LineId} (hc : (b.line l).lsc.confirm < (b.lineParams l).confirmTime) :
    b.tryHoldReturn l = b :=
  if_neg fun h => absurd hc (not_lt.2 (by simpa [condHolds_temperature] using h.2))

theorem tryHoldLimit_reached {l : LineId} (hst : (b.line l).lsc.state = .hold)
    (hc : (b.line l).lsc.confirm < (b.lineParams l).confirmTime)
    (hh : (b.lineParams l).holdLimit ≤ (b.line l).lsc.hold) :
    b.tryHoldLimit l = (b.enterRundown l .holdLimit).raiseLine .holdLimit l [] :=
  if_pos ⟨hst, by simpa [condHolds_temperature] using hc, hh⟩

theorem tryHoldLimit_of_ne {l : LineId} (hst : (b.line l).lsc.state ≠ .hold) : b.tryHoldLimit l = b :=
  if_neg fun h => hst h.1

theorem tryHoldLimit_short {l : LineId} (hh : (b.line l).lsc.hold < (b.lineParams l).holdLimit) :
    b.tryHoldLimit l = b :=
  if_neg fun h => absurd h.2.2 (not_le.2 hh)

theorem tryBurnoutEnd_reached {l : LineId} (hst : (b.line l).lsc.state = .rundown)
    (hb : (b.lineParams l).burnoutTime ≤ (b.line l).lsc.burnout) : b.tryBurnoutEnd l = b.enterIdle l :=
  if_pos ⟨hst, hb⟩

theorem tryBurnoutEnd_short {l : LineId} (hb : (b.line l).lsc.burnout < (b.lineParams l).burnoutTime) :
    b.tryBurnoutEnd l = b :=
  if_neg fun h => absurd h.2 (not_le.2 hb)

end Block

/-- Settles O16: the nine conditions, and nothing else, decide a FIRING_ENTRY in WARMUP. -/
theorem firingEntryNeedsEveryCondition : Obligations.FiringEntryNeedsEveryCondition := by
  unfold Obligations.FiringEntryNeedsEveryCondition
  intro s l
  have hexec : exec (.firingEntry l) s = .next (s.withBlock (s.block.tryFire l)) := rfl
  refine ⟨fun hst => ?_, fun hst hunmet => ?_, fun hst hmet => ?_⟩
  · rw [hexec, s.block.tryFire_of_ne hst, State.withBlock]
  · rw [hexec, s.block.tryFire_unmet hst hunmet]
    rfl
  · obtain ⟨hlsc, hgfu⟩ := s.block.enter_firing_line l
    refine ⟨_, hexec, ?_⟩
    rw [State.withBlock_block, s.block.tryFire_met hst hmet, hlsc, hgfu]
    exact ⟨rfl, rfl, rfl, rfl, rfl, rfl, s.block.enter_onlyLine l _,
      s.block.enter_reportsKept (.inr (.inr ⟨by decide, hmet .causes⟩))⟩

/-- HOLD_RETURN, HOLD_LIMIT and BURNOUT_END, each where its timer has reached its limit (R9, R14). -/
theorem holdAndBurnout_commands (s : State) (l : LineId) :
    let x := (s.block.line l).lsc
    let p := s.block.lineParams l
    (x.state = .hold → p.confirmTime ≤ x.confirm → ∃ t, exec (.holdReturn l) s = .next t ∧
      (t.block.line l).lsc.state = .firing ∧ (t.block.line l).lsc.hold = 0 ∧
      (t.block.line l).lsc.confirm = x.confirm ∧ (t.block.line l).gfu.acc = 0 ∧
      s.block.onlyLine t.block l ∧ t.block.rcs = s.block.rcs) ∧
    (x.state = .hold → x.confirm < p.confirmTime → p.holdLimit ≤ x.hold →
      ∃ t, exec (.holdLimit l) s = .next t ∧ (t.block.line l).lsc.state = .rundown ∧
        (t.block.line l).lsc.cause = .holdLimit ∧ (t.block.line l).lsc.hold = 0 ∧
        (t.block.line l).lsc.burnout = 0 ∧ t.block.pendingWith .holdLimit (lineNumber l) [] ∧
        s.block.onlyLine t.block l ∧ t.block.rcs = s.block.rcs) ∧
    (x.state = .rundown → p.burnoutTime ≤ x.burnout → ∃ t, exec (.burnoutEnd l) s = .next t ∧
      (t.block.line l).lsc.state = .idle ∧ (t.block.line l).lsc.burnout = 0 ∧
      (t.block.line l).lsc.cause = x.cause ∧ (t.block.line l).gfu.lastFiring = 0 ∧
      (t.block.line l).ccu.demand = 0 ∧ (t.block.line l).dau.episode = none ∧
      s.block.onlyLine t.block l) := by
  refine ⟨fun hst hc => ?_, fun hst hc hh => ?_, fun hst hb => ?_⟩
  · have hexec : exec (.holdReturn l) s = .next (s.withBlock (s.block.tryHoldReturn l)) := rfl
    obtain ⟨hlsc, hgfu⟩ := (s.block.modLsc l fun x => { x with hold := 0 }).enter_firing_line l
    refine ⟨_, hexec, ?_⟩
    rw [State.withBlock_block, s.block.tryHoldReturn_returns hst hc, hlsc, hgfu, Block.modLsc_line_self]
    exact ⟨rfl, rfl, rfl, rfl,
      Block.onlyLine_trans (s.block.modLsc_onlyLine l _) (Block.enter_onlyLine _ l _), Block.enter_rcs _ (by decide)⟩
  · have hexec : exec (.holdLimit l) s = .next (s.withBlock (s.block.tryHoldLimit l)) := rfl
    refine ⟨_, hexec, ?_⟩
    rw [State.withBlock_block, s.block.tryHoldLimit_reached hst hc hh, Block.raiseLine_line,
      (s.block.enterRundown_line l .holdLimit).1]
    obtain ⟨-, hrcs, -⟩ := s.block.enterRundown_reportsKept l .holdLimit
    exact ⟨rfl, rfl, rfl, rfl, Block.raise_pendingWith _ _ _ _,
      Block.onlyLine_trans (s.block.enterRundown_onlyLine l _) (Block.raiseLine_onlyLine _ _ _ _ _),
      by simpa using hrcs⟩
  · have hexec : exec (.burnoutEnd l) s = .next (s.withBlock (s.block.tryBurnoutEnd l)) := rfl
    obtain ⟨hlsc, hlast, hdemand, hepisode⟩ := s.block.enterIdle_line l
    refine ⟨_, hexec, ?_⟩
    rw [State.withBlock_block, s.block.tryBurnoutEnd_reached hst hb, hlsc]
    exact ⟨rfl, rfl, rfl, hlast, hdemand, hepisode, s.block.enterIdle_onlyLine l⟩

/-! ## FEED-STOP (R17, R18) -/

/-- The state FEED-STOP leaves a line in (R17). -/
def stoppedState : LineState → LineState
  | .firing | .hold => .rundown
  | .idle => .idle
  | .warmup => .warmup
  | .rundown => .rundown

/-- What FEED-STOP taken does to a line, from the line before (R17). -/
structure FeedStopped (before : Line) (t : Block) (l : LineId) : Prop where
  state : (t.line l).lsc.state = stoppedState before.lsc.state
  rundown : before.lsc.state = .firing ∨ before.lsc.state = .hold →
    (t.line l).lsc.cause = .feedstop ∧ (t.line l).lsc.burnout = 0
  kept : ¬(before.lsc.state = .firing ∨ before.lsc.state = .hold) →
    (t.line l).lsc.cause = before.lsc.cause ∧ (t.line l).lsc.burnout = before.lsc.burnout
  inhibited : before.lsc.state = .warmup → (t.line l).lsc.feedRequested = false
  stroke : (t.line l).gfu.phase = .none ∧ (t.line l).gfu.owed = false ∧ (t.line l).gfu.command = .retract
  told : t.pendingWith .feedstop (lineNumber l) [byte before.lsc.state.code]

theorem lineOf_lineNumber (l : LineId) : lineOf (lineNumber l) = some l := by
  cases l <;> rfl

theorem lineNumber_ne {l m : LineId} (h : m ≠ l) : lineNumber m ≠ lineNumber l := fun hn =>
  h (Option.some.inj (by rw [← lineOf_lineNumber, hn, lineOf_lineNumber]))

theorem inService_iff {b : Block} {l : LineId} :
    b.inService l = true ↔ (b.line l).lsc.state = .firing ∨ (b.line l).lsc.state = .hold := by
  unfold Block.inService
  split <;> simp_all

namespace Block
variable (b : Block)

/-- What the LSC of a line does as FEED-STOP is taken, before the abort and the notice (R17). -/
def feedStopLsc (l : LineId) : Block :=
  match (b.line l).lsc.state with
  | .firing | .hold => b.enterRundown l .feedstop
  | .warmup => b.modLsc l fun x => { x with feedRequested := false }
  | .idle | .rundown => b

theorem feedStopLine_eq (l : LineId) : b.feedStopLine l =
    ((b.feedStopLsc l).modGfu l Gfu.abort).raiseLine .feedstop l [byte (b.line l).lsc.state.code] := by
  unfold feedStopLine feedStopLsc
  cases (b.line l).lsc.state <;> rfl

theorem feedStopLsc_kept (l : LineId) : b.onlyLine (b.feedStopLsc l) l ∧ b.reportsKept (b.feedStopLsc l) := by
  unfold feedStopLsc
  split
  · exact ⟨enterRundown_onlyLine b l _, enterRundown_reportsKept b l _⟩
  · exact ⟨enterRundown_onlyLine b l _, enterRundown_reportsKept b l _⟩
  · exact ⟨modLsc_onlyLine b l _, by simp [reportsKept]⟩
  · simp
  · simp

theorem feedStopLine_onlyLine (l : LineId) : b.onlyLine (b.feedStopLine l) l := by
  rw [feedStopLine_eq]
  exact onlyLine_trans (b.feedStopLsc_kept l).1
    (onlyLine_trans (modGfu_onlyLine _ l _) (raiseLine_onlyLine _ _ _ _ _))

theorem feedStopLine_rcs (l : LineId) : (b.feedStopLine l).rcs = b.rcs := by
  obtain ⟨-, -, hrcs, -⟩ := b.feedStopLsc_kept l
  rw [feedStopLine_eq]
  simpa using hrcs

theorem feedStopLine_notice {l m : LineId} (h : m ≠ l) :
    (b.feedStopLine m).notice .feedstop (lineNumber l) = b.notice .feedstop (lineNumber l) := by
  rw [feedStopLine_eq]
  exact (raise_notice_of_ne _ (fun g => lineNumber_ne h g.2.symm) _).trans
    (notice_congr (b.feedStopLsc_kept m).2.1 _ _)

theorem feedStopped_self (l : LineId) : FeedStopped (b.line l) (b.feedStopLine l) l := by
  have htold : (b.feedStopLine l).pendingWith .feedstop (lineNumber l) [byte (b.line l).lsc.state.code] := by
    rw [feedStopLine_eq]
    exact raise_pendingWith _ _ _ _
  have hline : (b.feedStopLine l).line l =
      { (b.feedStopLsc l).line l with gfu := ((b.feedStopLsc l).line l).gfu.abort } := by
    rw [feedStopLine_eq]
    simp
  constructor
  case told => exact htold
  case stroke => simp [hline, Gfu.abort, Gfu.command]
  all_goals
    rw [hline]
    unfold feedStopLsc
    cases hst : (b.line l).lsc.state <;> simp [hst, stoppedState, (b.enterRundown_line l .feedstop).1]

theorem feedStopped_keep {before : Line} {l m : LineId} (hm : l ≠ m) (h : FeedStopped before b l) :
    FeedStopped before (b.feedStopLine m) l := by
  have hline : (b.feedStopLine m).line l = b.line l := onlyLine_line (b.feedStopLine_onlyLine m) hm
  constructor
  case told =>
    obtain ⟨e, he, hd⟩ := h.told
    exact ⟨e, (b.feedStopLine_notice hm.symm).trans he, hd⟩
  all_goals rw [hline]
  exacts [h.state, h.rundown, h.kept, h.inhibited, h.stroke]

theorem feedStopped_foldl_keep {before : Line} {l : LineId} {ms : List LineId} (hl : l ∉ ms) {b : Block}
    (h : FeedStopped before b l) : FeedStopped before (ms.foldl feedStopLine b) l := by
  induction ms generalizing b with
  | nil => exact h
  | cons m ms ih =>
    exact ih (List.not_mem_of_not_mem_cons hl) (b.feedStopped_keep (List.ne_of_not_mem_cons hl) h)

theorem feedStopped_foldl {l : LineId} {ms : List LineId} (hnd : ms.Nodup) (hl : l ∈ ms) :
    FeedStopped (b.line l) (ms.foldl feedStopLine b) l := by
  induction ms generalizing b with
  | nil => simp at hl
  | cons m ms ih =>
    obtain ⟨hm, hms⟩ := List.nodup_cons.1 hnd
    by_cases hlm : l = m
    · subst hlm
      exact feedStopped_foldl_keep hm (b.feedStopped_self l)
    · have h := ih (b.feedStopLine m) hms ((List.mem_cons.1 hl).resolve_left hlm)
      rwa [onlyLine_line (b.feedStopLine_onlyLine m) hlm] at h

/-- FEED-STOP taken acts on every line by its state (R17). -/
theorem feedStopTaken_line (l : LineId) : FeedStopped (b.line l) b.feedStopTaken l :=
  feedStopped_foldl { b with feedStop := true } (by decide) (by cases l <;> decide)

theorem feedStopTaken_kept : b.feedStopTaken.feedStop = true ∧ b.feedStopTaken.rcs = b.rcs := by
  simp [feedStopTaken, allLines, feedStopLine_rcs]

end Block

/-- R6: a LINE FEED in WARMUP that FEED-STOP inhibited is accepted after the release. -/
theorem lineFeed_after_release (s : State) (tag : Byte) (l : LineId) (h : s.block.linkIdle = true)
    (hst : (s.block.line l).lsc.state = .warmup) (hstop : s.block.feedStop = true) :
    let t := s.withBlock { s.block with feedStop := false }
    exec (.lineFeed tag (byte (lineNumber l))) s =
      .next (s.withBlock (s.block.repliedRefused .lineFeed tag .inhibited 0)) ∧
    ∃ u, exec (.lineFeed tag (byte (lineNumber l))) t = .next u ∧
      (u.block.line l).lsc.feedRequested = true ∧
      t.block.onlyReplied u.block .lineFeed tag (.done [byte 1]) := by
  intro t
  refine ⟨answered_of_unchanged h (exec_lineFeed tag h
    ((serveLineFeed_unchanged s.block.awaiting l).2.1 (.inl hst) hstop)), _, lineFeed_warmup t tag l h rfl hst, ?_⟩
  exact ⟨by simp [Block.repliedDone, Block.line, Block.modLsc, Block.modLine], rfl, rfl, rfl⟩

/-- Settles O15: FEED-STOP taken acts line by line, and its release changes the level alone. -/
theorem feedStopInhibitsAndReleases : Obligations.FeedStopInhibitsAndReleases := by
  unfold Obligations.FeedStopInhibitsAndReleases
  refine ⟨fun s => ⟨fun hstop => ?_, fun hstop => ?_⟩,
    fun s => ⟨_, rfl, rfl, fun tag l h hst hstop => lineFeed_after_release s tag l h hst hstop⟩⟩
  · have hexec : exec .feedStopAssert s =
        .next (s.withBlock (if s.block.feedStop then s.block else s.block.feedStopTaken)) := rfl
    rw [hexec, if_pos hstop, State.withBlock]
  · have hexec : exec .feedStopAssert s =
        .next (s.withBlock (if s.block.feedStop then s.block else s.block.feedStopTaken)) := rfl
    rw [if_neg (by simp [hstop])] at hexec
    obtain ⟨hlevel, hrcs⟩ := s.block.feedStopTaken_kept
    obtain ⟨-, -, -, hclock, htdu, hbus, hcmc⟩ := s.block.feedStopTaken_frame
    refine ⟨_, hexec, ?_⟩
    rw [State.withBlock_block]
    refine ⟨hlevel, hclock, htdu, hbus, hrcs, hcmc, fun l => ?_⟩
    have hl := s.block.feedStopTaken_line l
    refine ⟨hl.state.trans ?_, fun hs => hl.rundown (inService_iff.1 hs), fun hs => hl.kept fun hs' => ?_,
      hl.inhibited, hl.stroke.1, hl.stroke.2.1, hl.stroke.2.2, hl.told⟩
    · cases (s.block.line l).lsc.state <;> rfl
    · simp [inService_iff.2 hs'] at hs

end Sys2Proof.Machine
end

section
/-! What the deliveries of a second tick can do to one line: its own second tick, and what the others leave of it
(R3, R7, R9, R14, R21, R24, R120). -/

namespace Sys2Proof.Machine
open Sys2Proof

namespace Block
variable (b : Block)

/-! ## The transitions of a line leave the notices of other kinds and lines -/

/-- The kinds a change of line state never raises (R103, R109, R207). -/
def OffTransition (k : NoticeKind) : Prop := k ≠ .deviationOpen ∧ k ≠ .deviationClosed ∧ k ≠ .recordsLost

theorem raiseLine_notice_of_ne {k k' : NoticeKind} (h : k' ≠ k) (m : LineId) (d : List Byte) (n : Nat) :
    (b.raiseLine k m d).notice k' n = b.notice k' n :=
  raise_notice_of_ne b (fun g => h g.1) d

theorem openEpisode_notice {k : NoticeKind} (hk : OffTransition k) (m : LineId) (n : Nat) :
    (b.openEpisode m).notice k n = b.notice k n :=
  raiseLine_notice_of_ne _ hk.1 m _ n

theorem closeEpisode_notice {k : NoticeKind} (hk : OffTransition k) (m : LineId) (r : CloseReason) (n : Nat) :
    (b.closeEpisode m r).notice k n = b.notice k n := by
  unfold closeEpisode
  split
  · rfl
  · exact (raiseLine_notice_of_ne _ hk.2.1 m _ n).trans (enterRecord_notice_of_ne b m _ hk.2.2 n)

theorem dauEnter_notice {k : NoticeKind} (hk : OffTransition k) (m : LineId) (st : LineState) (n : Nat) :
    (b.dauEnter m st).notice k n = b.notice k n := by
  cases st with
  | warmup | rundown => rfl
  | firing | hold =>
    unfold dauEnter
    dsimp only
    split
    · exact openEpisode_notice b hk m n
    · rfl
  | idle => exact closeEpisode_notice b hk m _ n

theorem enter_notice {k : NoticeKind} (hk : OffTransition k) (m : LineId) (st : LineState) (n : Nat) :
    (b.enter m st).notice k n = b.notice k n :=
  (dauEnter_notice _ hk m st n).trans (notice_congr (b.entered_reportsKept m st).1 k n)

/-! ## The second tick of an LSC -/

@[simp] theorem tryFire_onlyLine (l : LineId) : b.onlyLine (b.tryFire l) l := by
  unfold tryFire
  (repeat' split) <;> simp

@[simp] theorem tryHoldReturn_onlyLine (l : LineId) : b.onlyLine (b.tryHoldReturn l) l := by
  unfold tryHoldReturn
  split
  · exact onlyLine_trans (modLsc_onlyLine b l _) (enter_onlyLine _ l _)
  · simp

@[simp] theorem tryHoldLimit_onlyLine (l : LineId) : b.onlyLine (b.tryHoldLimit l) l := by
  unfold tryHoldLimit
  split
  · exact onlyLine_trans (enterRundown_onlyLine b l _) (raiseLine_onlyLine _ _ _ _ _)
  · simp

@[simp] theorem tryBurnoutEnd_onlyLine (l : LineId) : b.onlyLine (b.tryBurnoutEnd l) l := by
  unfold tryBurnoutEnd
  split <;> simp

@[simp] theorem lscTick_onlyLine (l : LineId) : b.onlyLine (b.lscTick l) l := by
  unfold lscTick
  dsimp only
  refine onlyLine_trans (modLsc_onlyLine b l lscCount) ?_
  split
  · exact tryFire_onlyLine _ l
  · exact onlyLine_trans (tryHoldReturn_onlyLine _ l) (tryHoldLimit_onlyLine _ l)
  · exact tryBurnoutEnd_onlyLine _ l
  all_goals exact onlyLine_refl _ l

theorem offTransition_holdLimit : OffTransition .holdLimit := ⟨by decide, by decide, by decide⟩

/-- Another line's second tick leaves the HOLD_LIMIT of this one. -/
theorem lscTick_notice {l m : LineId} (hm : m ≠ l) :
    (b.lscTick m).notice .holdLimit (lineNumber l) = b.notice .holdLimit (lineNumber l) := by
  have hk := offTransition_holdLimit
  have hfire (b : Block) : (b.tryFire m).notice .holdLimit (lineNumber l) = b.notice .holdLimit (lineNumber l) := by
    unfold tryFire
    split
    · split
      · exact enter_notice b hk m _ _
      · rfl
    · rfl
  have hreturn (b : Block) : (b.tryHoldReturn m).notice .holdLimit (lineNumber l) =
      b.notice .holdLimit (lineNumber l) := by
    unfold tryHoldReturn
    split
    · exact enter_notice _ hk m _ _
    · rfl
  have hlimit (b : Block) : (b.tryHoldLimit m).notice .holdLimit (lineNumber l) =
      b.notice .holdLimit (lineNumber l) := by
    unfold tryHoldLimit
    split
    · exact (raise_notice_of_ne _ (fun g => lineNumber_ne hm g.2.symm) _).trans
        (notice_congr (b.enterRundown_reportsKept m _).1 _ _)
    · rfl
  have hburnout (b : Block) : (b.tryBurnoutEnd m).notice .holdLimit (lineNumber l) =
      b.notice .holdLimit (lineNumber l) := by
    unfold tryBurnoutEnd
    split
    · exact enter_notice _ hk m _ _
    · rfl
  unfold lscTick
  dsimp only
  split
  · exact hfire _
  · exact (hlimit _).trans (hreturn _)
  · exact hburnout _
  all_goals rfl

/-! ## The second tick of a GFU -/

@[simp] theorem feedFault_onlyLine (l : LineId) (lost : Bool) : b.onlyLine (b.feedFault l lost) l := by
  unfold feedFault
  split
  · exact onlyLine_trans (enterRundown_onlyLine b l _) (raiseLine_onlyLine _ _ _ _ _)
  · simp

/-- What a stroke timeout can do (R45, R46): nothing; end the stroke with RAM_FAULT; and report it to the LSC. -/
theorem tryStrokeTimeout_cases (l : LineId) : b.tryStrokeTimeout l = b ∨
    ∃ d, b.tryStrokeTimeout l = (b.modGfu l Gfu.timeOut).raiseLine .ramFault l d ∨
      b.tryStrokeTimeout l = ((b.modGfu l Gfu.timeOut).raiseLine .ramFault l d).feedFault l false := by
  unfold tryStrokeTimeout
  dsimp only
  split
  · generalize u8 (if (b.line l).gfu.phase = .extending then 0 else 1) = d
    refine .inr ⟨d, ?_⟩
    split
    · exact .inr rfl
    · exact .inl rfl
  · exact .inl rfl

@[simp] theorem tryStrokeTimeout_onlyLine (l : LineId) : b.onlyLine (b.tryStrokeTimeout l) l := by
  have htimeOut (d : List Byte) : b.onlyLine ((b.modGfu l Gfu.timeOut).raiseLine .ramFault l d) l :=
    onlyLine_trans (modGfu_onlyLine b l _) (raiseLine_onlyLine _ _ _ _ _)
  rcases b.tryStrokeTimeout_cases l with h | ⟨d, h | h⟩ <;> rw [h]
  · exact onlyLine_refl b l
  · exact htimeOut d
  · exact onlyLine_trans (htimeOut d) (feedFault_onlyLine _ l false)

@[simp] theorem pacerCount_onlyLine (l : LineId) : b.onlyLine (b.pacerCount l) l := by
  unfold pacerCount
  split <;> simp

@[simp] theorem strokeIsDue_onlyLine (l : LineId) : b.onlyLine (b.strokeIsDue l) l := by
  unfold strokeIsDue
  dsimp only
  split
  · split <;> simp
  · split
    · exact onlyLine_trans (modGfu_onlyLine b l _) (raiseLine_onlyLine _ _ _ _ _)
    · simp

@[simp] theorem tryStrokeDue_onlyLine (l : LineId) : b.onlyLine (b.tryStrokeDue l) l := by
  unfold tryStrokeDue
  split
  · exact onlyLine_trans (modGfu_onlyLine b l _) (strokeIsDue_onlyLine _ l)
  · simp

@[simp] theorem gfuTick_onlyLine (l : LineId) : b.onlyLine (b.gfuTick l) l :=
  onlyLine_trans (onlyLine_trans (onlyLine_trans (modGfu_onlyLine b l _) (tryStrokeTimeout_onlyLine _ l))
    (pacerCount_onlyLine _ l)) (tryStrokeDue_onlyLine _ l)

theorem feedFault_notice (m : LineId) (lost : Bool) (n : Nat) :
    (b.feedFault m lost).notice .holdLimit n = b.notice .holdLimit n := by
  unfold feedFault
  split
  · exact (raiseLine_notice_of_ne _ (by decide) m _ n).trans (notice_congr (b.enterRundown_reportsKept m _).1 _ _)
  · rfl

theorem tryStrokeTimeout_notice (m : LineId) (n : Nat) :
    (b.tryStrokeTimeout m).notice .holdLimit n = b.notice .holdLimit n := by
  have htimeOut (d : List Byte) :
      ((b.modGfu m Gfu.timeOut).raiseLine .ramFault m d).notice .holdLimit n = b.notice .holdLimit n :=
    raiseLine_notice_of_ne _ (by decide) m d n
  rcases b.tryStrokeTimeout_cases m with h | ⟨d, h | h⟩ <;> rw [h]
  · exact htimeOut d
  · exact (feedFault_notice _ m false n).trans (htimeOut d)

theorem tryStrokeDue_notice (m : LineId) (n : Nat) :
    (b.tryStrokeDue m).notice .holdLimit n = b.notice .holdLimit n := by
  unfold tryStrokeDue
  split
  · unfold strokeIsDue
    dsimp only
    split
    · split <;> rfl
    · split
      · exact raiseLine_notice_of_ne _ (by decide) m _ n
      · rfl
  · rfl

theorem pacerCount_notice (m : LineId) (k : NoticeKind) (n : Nat) : (b.pacerCount m).notice k n = b.notice k n :=
  notice_congr (by simp) _ _

theorem gfuTick_notice (m : LineId) (n : Nat) : (b.gfuTick m).notice .holdLimit n = b.notice .holdLimit n := by
  unfold gfuTick
  rw [tryStrokeDue_notice, pacerCount_notice, tryStrokeTimeout_notice]
  rfl

/-- No stroke of the line times out at its next second tick (R45). -/
def StrokeQuiet (l : LineId) : Prop :=
  (b.line l).gfu.phase = .none ∨ (b.line l).gfu.age + 1 < (b.lineParams l).strokeTimeout

/-- A second tick at which no stroke times out leaves the line's LSC and DAU (R40, R45). -/
theorem gfuTick_line {l : LineId} (h : b.StrokeQuiet l) :
    ((b.gfuTick l).line l).lsc = (b.line l).lsc ∧ ((b.gfuTick l).line l).dau = (b.line l).dau := by
  have hquiet : (b.modGfu l strokeAge).tryStrokeTimeout l = b.modGfu l strokeAge := by
    refine if_neg fun ⟨hflight, hage⟩ => ?_
    simp only [modGfu_line_self, strokeAge] at hflight hage
    rcases h with h | h
    · simp [h] at hflight
    · rw [apply_ite Gfu.phase, ite_self] at hflight
      rw [if_neg hflight] at hage
      have hcap : (satAdd 600 (b.line l).gfu.age 1) ≤ (b.line l).gfu.age + 1 := min_le_right _ _
      have hlimit : (b.lineParams l).strokeTimeout ≤ satAdd 600 (b.line l).gfu.age 1 := hage
      omega
  have hpacer (b : Block) : ((b.pacerCount l).line l).lsc = (b.line l).lsc ∧
      ((b.pacerCount l).line l).dau = (b.line l).dau := by
    unfold pacerCount
    split <;> simp
  have hdue (b : Block) : ((b.tryStrokeDue l).line l).lsc = (b.line l).lsc ∧
      ((b.tryStrokeDue l).line l).dau = (b.line l).dau := by
    unfold tryStrokeDue strokeIsDue
    dsimp only
    (repeat' split) <;> simp
  unfold gfuTick
  rw [hquiet, (hdue _).1, (hdue _).2, (hpacer _).1, (hpacer _).2]
  simp

end Block
end Sys2Proof.Machine
end

section
/-! The deliveries of a second tick that ends no minute, as one line takes them: its own LSC's second tick among
others that leave what that LSC reads (R3, R7, R9, R14, R24 to R26). -/

namespace Sys2Proof.Machine
open Sys2Proof

/-- What a step leaves of all that a line's LSC reads at a second tick, and of its HOLD_LIMIT. -/
structure LscKept (b t : Block) (l : LineId) : Prop where
  lsc : (t.line l).lsc = (b.line l).lsc
  dau : (t.line l).dau = (b.line l).dau
  told : t.notice .holdLimit (lineNumber l) = b.notice .holdLimit (lineNumber l)
  level : t.feedStop = b.feedStop
  bus : t.bus = b.bus
  cmc : t.cmc = b.cmc

theorem LscKept.refl (b : Block) (l : LineId) : LscKept b b l := ⟨rfl, rfl, rfl, rfl, rfl, rfl⟩

theorem LscKept.trans {b t u : Block} {l : LineId} (h : LscKept b t l) (g : LscKept t u l) : LscKept b u l :=
  ⟨g.lsc.trans h.lsc, g.dau.trans h.dau, g.told.trans h.told, g.level.trans h.level, g.bus.trans h.bus,
    g.cmc.trans h.cmc⟩

/-- The LSC reads nothing of the clock. -/
theorem LscKept.setClock (b : Block) (k : Clock) (l : LineId) : LscKept b { b with clock := k } l :=
  ⟨rfl, rfl, rfl, rfl, rfl, rfl⟩

/-- A step on another line keeps what the LSC of this one reads. -/
theorem LscKept.of_onlyLine {b t : Block} {l m : LineId} (h : b.onlyLine t m) (hm : m ≠ l)
    (htold : t.notice .holdLimit (lineNumber l) = b.notice .holdLimit (lineNumber l)) : LscKept b t l := by
  have hline := Block.onlyLine_line h hm.symm
  obtain ⟨⟨-, -, hlevel, -, -⟩, -, hbus, hcmc, -, -⟩ := h
  exact ⟨congrArg Line.lsc hline, congrArg Line.dau hline, htold, hlevel, hbus, hcmc⟩

namespace Block
variable (b : Block)

/-! ## Deliveries to other owners -/

theorem strokeQuiet_congr {b t : Block} {l : LineId} (hphase : (t.line l).gfu.phase = (b.line l).gfu.phase)
    (hage : (t.line l).gfu.age = (b.line l).gfu.age) (hcmc : t.cmc = b.cmc) :
    t.StrokeQuiet l ↔ b.StrokeQuiet l := by
  simp only [StrokeQuiet, hphase, hage, lineParams, hcmc]

theorem turbineTick_kept (u : TurbineId) (l : LineId) :
    LscKept b (b.turbineTick u) l ∧ (b.turbineTick u).line l = b.line l := by
  have hline : (b.turbineTick u).line l = b.line l := by simp [line]
  have htold : (b.turbineTick u).notice .holdLimit (lineNumber l) = b.notice .holdLimit (lineNumber l) := by
    have htimeout (b : Block) : (b.tryRunupTimeout u).notice .holdLimit (lineNumber l) =
        b.notice .holdLimit (lineNumber l) := by
      unfold tryRunupTimeout
      dsimp only
      split
      · exact raise_notice_of_ne _ (fun g => absurd g.1 (by decide)) _
      · rfl
    have honline (b : Block) : (b.tryOnline u).notice .holdLimit (lineNumber l) =
        b.notice .holdLimit (lineNumber l) := notice_congr (by simp) _ _
    unfold turbineTick
    dsimp only
    split
    · split
      · exact (htimeout _).trans (honline _)
      · exact honline _
    · rfl
  exact ⟨⟨congrArg Line.lsc hline, congrArg Line.dau hline, htold, by simp, by simp, by simp⟩, hline⟩

/-- A load target leaves all but the load record of the line (R36). -/
theorem deliverTarget_line (m l : LineId) :
    ((b.deliverTarget m).line l).lsc = (b.line l).lsc ∧ ((b.deliverTarget m).line l).dau = (b.line l).dau ∧
    ((b.deliverTarget m).line l).gfu.phase = (b.line l).gfu.phase ∧
    ((b.deliverTarget m).line l).gfu.age = (b.line l).gfu.age := by
  have hmod (f : Gfu → Gfu) (hf : ∀ g, (f g).phase = g.phase ∧ (f g).age = g.age) :
      ((b.modGfu m f).line l).lsc = (b.line l).lsc ∧ ((b.modGfu m f).line l).dau = (b.line l).dau ∧
      ((b.modGfu m f).line l).gfu.phase = (b.line l).gfu.phase ∧
      ((b.modGfu m f).line l).gfu.age = (b.line l).gfu.age := by
    by_cases hm : l = m
    · subst hm
      simp [hf]
    · simp [modGfu_line_of_ne b f hm]
  unfold deliverTarget
  split
  · unfold loadTarget
    split
    · exact hmod _ fun g => ⟨rfl, rfl⟩
    · simp
  · simp

/-- A balance cycle leaves a line's LSC, DAU and stroke (R120, R129). -/
theorem balanceCycle_line (l : LineId) :
    (b.balanceCycle.line l).lsc = (b.line l).lsc ∧ (b.balanceCycle.line l).dau = (b.line l).dau ∧
    (b.balanceCycle.line l).gfu.phase = (b.line l).gfu.phase ∧
    (b.balanceCycle.line l).gfu.age = (b.line l).gfu.age := by
  have hmove (b : Block) (x y : Nat) (p q : Bool) : ((b.moveSetpoints x y).cycleNotices p q).line l = b.line l := by
    simp [line]
  have hconvert (f : Blu) : ({ b.applyQueue.convert with blu := f } : Block).line l = b.line l := by
    simp [line]
  unfold balanceCycle
  simp only [hmove, allLines, List.foldl, deliverTarget_line, hconvert, and_self]

/-- A balance cycle raises COMMIT_SHORT and BYPASS_SAT alone (R126, R130). -/
theorem balanceCycle_notice (n : Nat) : b.balanceCycle.notice .holdLimit n = b.notice .holdLimit n := by
  have hraise (b : Block) (p q : Bool) : (b.cycleNotices p q).notice .holdLimit n = b.notice .holdLimit n := by
    have hshort : (if b.blu.short && !p then
        b.raise .commitShort 0 (u8 (if 0 < b.blu.elShort then 0 else 1)) else b).notice .holdLimit n =
          b.notice .holdLimit n := by
      split
      · exact raise_notice_of_ne _ (fun g => absurd g.1 (by decide)) _
      · rfl
    unfold cycleNotices
    dsimp only
    split
    · exact (raise_notice_of_ne _ (fun g => absurd g.1 (by decide)) _).trans hshort
    · exact hshort
  unfold balanceCycle
  dsimp only
  rw [hraise]
  exact notice_congr (by simp [allLines, List.foldl]) _ _

theorem withTaken_line (x : PerLine Taken) (l : LineId) : (b.withTaken x).line l = b.line l := rfl

theorem withTaken_notice (x : PerLine Taken) (k : NoticeKind) (n : Nat) :
    (b.withTaken x).notice k n = b.notice k n := rfl

end Block

/-- A balance cycle among deliveries keeps what a line's LSC reads, and its stroke (R120, R134). -/
theorem cycle_kept (x : Pass) (l : LineId) : LscKept x.block x.cycle.block l ∧
    (x.cycle.block.line l).gfu.phase = (x.block.line l).gfu.phase ∧
    (x.cycle.block.line l).gfu.age = (x.block.line l).gfu.age := by
  obtain ⟨-, -, hlevel, -, -, hbus, -, hcmc, -⟩ := x.cycle_frame
  have hline := (x.block.withTaken x.taken).balanceCycle_line l
  have htold := (x.block.withTaken x.taken).balanceCycle_notice (lineNumber l)
  rw [Block.withTaken_line] at hline
  rw [Block.withTaken_notice] at htold
  have hcycle : x.cycle.block = (x.block.withTaken x.taken).balanceCycle.withTaken x.block.taken := rfl
  rw [← Block.withTaken_line _ x.block.taken, ← hcycle] at hline
  rw [← Block.withTaken_notice _ x.block.taken, ← hcycle] at htold
  obtain ⟨hlsc, hdau, hstroke⟩ := hline
  exact ⟨⟨hlsc, hdau, htold, hlevel, hbus, hcmc⟩, hstroke⟩

/-! ## The deliveries of a second tick -/

/-- The deliveries of a second tick and of a balance tick (R24, R25, R134). -/
inductive TickJob : Job → Prop
  | lsc (m : LineId) : TickJob ⟨.lsc m, none⟩
  | gfu (m : LineId) : TickJob ⟨.gfu m, none⟩
  | turbine (u : TurbineId) : TickJob ⟨.turbine u, none⟩
  | blu (m : LineId) : TickJob ⟨.blu m, none⟩
  | balance : TickJob ⟨.balance, none⟩

theorem tickJob_of_mem {due : Bool} {j : Job} (h : j ∈ tickJobs ++ Block.balanceJob due) : TickJob j := by
  simp only [tickJobs, Block.balanceJob, List.mem_append, List.mem_map, List.mem_cons, List.not_mem_nil, or_false] at h
  rcases h with (((⟨m, -, rfl⟩ | ⟨m, -, rfl⟩) | rfl | rfl) | ⟨m, -, rfl⟩) | h
  · exact .lsc m
  · exact .gfu m
  · exact .turbine .t1
  · exact .turbine .t2
  · exact .blu m
  · cases due with
    | false => simp at h
    | true => exact List.mem_singleton.1 h ▸ .balance

theorem tickJobs_nodup (due : Bool) : (tickJobs ++ Block.balanceJob due).Nodup := by
  cases due <;> decide

theorem lsc_mem_tickJobs (due : Bool) (l : LineId) : ⟨.lsc l, none⟩ ∈ tickJobs ++ Block.balanceJob due := by
  cases due <;> cases l <;> decide

/-- A delivery to another owner than the line's LSC, and than its GFU where a stroke times out, keeps what the LSC
reads. -/
theorem tickJob_kept {j : Job} (hj : TickJob j) {l : LineId} (hl : j ≠ ⟨.lsc l, none⟩) (x : Pass)
    (hq : j = ⟨.gfu l, none⟩ → x.block.StrokeQuiet l) : LscKept x.block (j.run x).block l := by
  cases hj with
  | lsc m =>
    have hm : m ≠ l := fun h => hl (h ▸ rfl)
    exact .of_onlyLine (x.block.lscTick_onlyLine m) hm (x.block.lscTick_notice hm)
  | gfu m =>
    by_cases hm : m = l
    · subst hm
      obtain ⟨hlsc, hdau⟩ := x.block.gfuTick_line (hq rfl)
      obtain ⟨⟨-, -, hlevel, -, -⟩, -, hbus, hcmc, -, -⟩ := x.block.gfuTick_onlyLine m
      exact ⟨hlsc, hdau, x.block.gfuTick_notice m _, hlevel, hbus, hcmc⟩
    · exact .of_onlyLine (x.block.gfuTick_onlyLine m) hm (x.block.gfuTick_notice m _)
  | turbine u => exact (x.block.turbineTick_kept u l).1
  | blu m => exact .refl _ l
  | balance => exact (cycle_kept x l).1

/-- A delivery to another owner than the line's LSC and GFU leaves its stroke. -/
theorem tickJob_quiet {j : Job} (hj : TickJob j) {l : LineId} (hl : j ≠ ⟨.lsc l, none⟩) (hg : j ≠ ⟨.gfu l, none⟩)
    (x : Pass) (h : x.block.StrokeQuiet l) : (j.run x).block.StrokeQuiet l := by
  have hline {t : Block} (ht : t.line l = x.block.line l) (hcmc : t.cmc = x.block.cmc) : t.StrokeQuiet l :=
    (Block.strokeQuiet_congr (by rw [ht]) (by rw [ht]) hcmc).2 h
  cases hj with
  | lsc m =>
    have ho := x.block.lscTick_onlyLine m
    exact hline (Block.onlyLine_line ho fun hm => hl (hm ▸ rfl)) (Block.onlyLine_cmc ho)
  | gfu m =>
    have ho := x.block.gfuTick_onlyLine m
    exact hline (Block.onlyLine_line ho fun hm => hg (hm ▸ rfl)) (Block.onlyLine_cmc ho)
  | turbine u => exact hline (x.block.turbineTick_kept u l).2 (x.block.turbineTick_kept u l).1.cmc
  | blu m => exact h
  | balance =>
    obtain ⟨hkept, hphase, hage⟩ := cycle_kept x l
    exact (Block.strokeQuiet_congr hphase hage hkept.cmc).2 h

/-- A change of line state may end a stroke, and lengthens none (R35, R47). -/
theorem enter_quiet {b : Block} {l : LineId} (h : b.StrokeQuiet l) (st : LineState) :
    (b.enter l st).StrokeQuiet l := by
  obtain ⟨c, hgfu, -⟩ := b.enter_gfu l st
  have hparams : (b.enter l st).lineParams l = b.lineParams l := by simp [Block.lineParams]
  unfold Block.StrokeQuiet at h ⊢
  rw [hgfu, hparams]
  cases st with
  | rundown => exact .inl rfl
  | idle | warmup | firing | hold => exact h

/-- The line's own second tick may end its stroke, and lengthens none. -/
theorem lscTick_quiet {b : Block} {l : LineId} (h : b.StrokeQuiet l) : (b.lscTick l).StrokeQuiet l := by
  have hmod {b : Block} (h : b.StrokeQuiet l) (f : Lsc → Lsc) : (b.modLsc l f).StrokeQuiet l :=
    (Block.strokeQuiet_congr (b := b) (t := b.modLsc l f) (by simp) (by simp) rfl).2 h
  have hfire {b : Block} (h : b.StrokeQuiet l) : (b.tryFire l).StrokeQuiet l := by
    unfold Block.tryFire
    split
    · split
      · exact enter_quiet h _
      · exact hmod h _
    · exact h
  have hreturn {b : Block} (h : b.StrokeQuiet l) : (b.tryHoldReturn l).StrokeQuiet l := by
    unfold Block.tryHoldReturn
    split
    · exact enter_quiet (hmod h _) _
    · exact h
  have hlimit {b : Block} (h : b.StrokeQuiet l) : (b.tryHoldLimit l).StrokeQuiet l := by
    unfold Block.tryHoldLimit
    split
    · exact .inl (by simp [(b.enterRundown_line l .holdLimit).2, Gfu.abort])
    · exact h
  have hburnout {b : Block} (h : b.StrokeQuiet l) : (b.tryBurnoutEnd l).StrokeQuiet l := by
    unfold Block.tryBurnoutEnd
    split
    · exact enter_quiet (hmod h _) _
    · exact h
  unfold Block.lscTick
  dsimp only
  split
  · exact hfire (hmod h _)
  · exact hlimit (hreturn (hmod h _))
  · exact hburnout (hmod h _)
  all_goals exact hmod h _

/-- Deliveries taken one after the other, each by its owner (R24, R26). -/
def Pass.takeJobs (x : Pass) (js : List Job) : Pass := js.foldl (fun x j => Job.run j x) x

theorem Pass.takeJobs_cons (x : Pass) (j : Job) (js : List Job) :
    x.takeJobs (j :: js) = (j.run x).takeJobs js := rfl

theorem Pass.takeJobs_append (x : Pass) (js ks : List Job) :
    x.takeJobs (js ++ ks) = (x.takeJobs js).takeJobs ks := List.foldl_append

theorem Block.deliverAll_eq (b : Block) (js : List Job) : b.deliverAll js = (Pass.takeJobs ⟨b, b.taken⟩ js).block := rfl

/-- Deliveries of a second tick without the line's own: what its LSC reads is kept where no stroke of it times out. -/
theorem takeJobs_kept {l : LineId} {js : List Job} (hjs : ∀ j ∈ js, TickJob j) (hnd : js.Nodup)
    (hl : ⟨.lsc l, none⟩ ∉ js) (x : Pass) (hq : ⟨.gfu l, none⟩ ∈ js → x.block.StrokeQuiet l) :
    LscKept x.block (x.takeJobs js).block l := by
  induction js generalizing x with
  | nil => exact .refl _ l
  | cons j js ih =>
    obtain ⟨hj, hjs⟩ := List.forall_mem_cons.1 hjs
    obtain ⟨hfresh, hnd⟩ := List.nodup_cons.1 hnd
    have hjl : j ≠ ⟨.lsc l, none⟩ := (List.ne_of_not_mem_cons hl).symm
    refine (tickJob_kept hj hjl x fun hg => hq (hg ▸ List.mem_cons_self)).trans
      (ih hjs hnd (List.not_mem_of_not_mem_cons hl) _ fun hg => ?_)
    exact tickJob_quiet hj hjl (fun hjg => hfresh (hjg ▸ hg)) x (hq (List.mem_cons_of_mem _ hg))

/-- Deliveries of a second tick to neither the line's LSC nor its GFU leave its stroke. -/
theorem takeJobs_quiet {l : LineId} {js : List Job} (hjs : ∀ j ∈ js, TickJob j) (hl : ⟨.lsc l, none⟩ ∉ js)
    (hg : ⟨.gfu l, none⟩ ∉ js) (x : Pass) (h : x.block.StrokeQuiet l) :
    (x.takeJobs js).block.StrokeQuiet l := by
  induction js generalizing x with
  | nil => exact h
  | cons j js ih =>
    obtain ⟨hj, hjs⟩ := List.forall_mem_cons.1 hjs
    exact ih hjs (List.not_mem_of_not_mem_cons hl) (List.not_mem_of_not_mem_cons hg) _
      (tickJob_quiet hj (List.ne_of_not_mem_cons hl).symm (List.ne_of_not_mem_cons hg).symm x h)

/-- Among the deliveries of a second tick the line's LSC takes its own once, on what it would have read before them
all, and the rest keep what it leaves. -/
theorem deliverAll_tickJobs {l : LineId} {js : List Job} (hjs : ∀ j ∈ js, TickJob j) (hnd : js.Nodup)
    (hl : ⟨.lsc l, none⟩ ∈ js) {b : Block} (hq : b.StrokeQuiet l) :
    ∃ b1, LscKept b b1 l ∧ LscKept (b1.lscTick l) (b.deliverAll js) l := by
  obtain ⟨pre, post, rfl⟩ := List.append_of_mem hl
  obtain ⟨hpre, hpost⟩ := List.forall_mem_append.1 hjs
  obtain ⟨-, hpost⟩ := List.forall_mem_cons.1 hpost
  obtain ⟨hndpre, hndpost, hdisj⟩ := List.nodup_append.1 hnd
  obtain ⟨hlpost, hndpost⟩ := List.nodup_cons.1 hndpost
  have hlpre : ⟨.lsc l, none⟩ ∉ pre := fun h => hdisj _ h _ List.mem_cons_self rfl
  have hkept := takeJobs_kept hpre hndpre hlpre ⟨b, b.taken⟩ fun _ => hq
  have hquiet (hg : ⟨.gfu l, none⟩ ∈ post) := lscTick_quiet (takeJobs_quiet hpre hlpre
    (fun h => hdisj _ h _ (List.mem_cons_of_mem _ hg) rfl) ⟨b, b.taken⟩ hq)
  rw [Block.deliverAll_eq, Pass.takeJobs_append, Pass.takeJobs_cons]
  generalize Pass.takeJobs ⟨b, b.taken⟩ pre = x at hkept hquiet
  exact ⟨x.block, hkept, takeJobs_kept hpost hndpost hlpost { x with block := x.block.lscTick l } hquiet⟩

/-! ## The order of the deliveries -/

theorem takeJob_perm {o : Owner} {js rest : List Job} {j : Job} (h : takeJob o js = some (j, rest)) :
    js.Perm (j :: rest) := by
  induction js generalizing rest with
  | nil => simp [takeJob] at h
  | cons k ks ih =>
    unfold takeJob at h
    split at h
    · simp only [Option.some.injEq, Prod.mk.injEq] at h
      rw [h.1, h.2]
    · simp only [Option.map_eq_some_iff, Prod.mk.injEq, Prod.exists] at h
      obtain ⟨k', rest', hk, rfl, rfl⟩ := h
      exact ((ih hk).cons k).trans (List.Perm.swap _ _ _)

/-- Whatever the order names, every delivery is taken once (R24, R26). -/
theorem arrange_perm (os : List Owner) (js : List Job) : (arrange os js).Perm js := by
  induction os generalizing js with
  | nil => exact .refl js
  | cons o os ih =>
    unfold arrange
    split
    · next j rest h => exact ((ih rest).cons j).trans (takeJob_perm h).symm
    · exact ih js

theorem putsOff_of_tickJob (b : Block) (js : List Job) {j : Job} (h : TickJob j) : b.putsOff js j = false := by
  cases h <;> rfl

/-- The order puts off none of the deliveries of a second tick (R26). -/
theorem runJobs_of_tickJobs (b : Block) {js : List Job} (h : ∀ j ∈ js, TickJob j) :
    ∃ k : Clock, b.runJobs js = { b.deliver (arrange b.order js) with clock := k } := by
  have hall : (arrange b.order js).filter (fun j => !b.putsOff js j) = arrange b.order js :=
    List.filter_eq_self.2 fun j hj => by
      rw [putsOff_of_tickJob b js (h j ((arrange_perm _ js).mem_iff.1 hj)), Bool.not_false]
  unfold Block.runJobs
  dsimp only
  rw [hall]
  exact ⟨_, rfl⟩

/-- A waiting rundown of another line is taken without effect on what this line's LSC reads; none of this line
waits. -/
theorem takeLimit_kept {b : Block} {l : LineId} (h : (b.line l).lsc.limitDue = none) (m : LineId) :
    LscKept b (b.takeLimit m) l ∧ (b.takeLimit m).line l = b.line l := by
  obtain ⟨hnone, hsome⟩ := b.takeLimit_spec m
  cases hdue : (b.line m).lsc.limitDue with
  | none =>
    rw [hnone hdue]
    exact ⟨.refl b l, rfl⟩
  | some c =>
    have hm : m ≠ l := fun hm => by simp [hm, h] at hdue
    obtain ⟨hin, hout⟩ := hsome c hdue
    have htaken : b.onlyLine (b.takeLimit m) m ∧ (b.takeLimit m).notices = b.notices := by
      cases hs : b.inService m with
      | true =>
        rw [hin hs]
        exact ⟨Block.onlyLine_trans (b.enterRundown_onlyLine m c) (Block.modLsc_onlyLine _ m _),
          (b.enterRundown_reportsKept m c).1⟩
      | false =>
        rw [hout hs]
        exact ⟨b.modLsc_onlyLine m _, rfl⟩
    exact ⟨.of_onlyLine htaken.1 hm (Block.notice_congr htaken.2 _ _), Block.onlyLine_line htaken.1 hm.symm⟩

end Sys2Proof.Machine
end

section
/-! HOLD_RETURN, HOLD_LIMIT, BURNOUT_END, and what a second tick that ends no minute does to a line (R3, R7, R8, R9,
R14). -/

namespace Sys2Proof.Machine
open Sys2Proof

namespace Block
variable (b : Block)

/-- The confirm timer a second tick leaves (R3). -/
def tickedConfirm (l : LineId) : Nat :=
  if (b.line l).lsc.hot then min 600 ((b.line l).lsc.confirm + 1) else 0

/-- A firing condition as a second tick tests it, with the new confirm timer (R7). -/
def tickHolds (l : LineId) (d : FiringCond) : Bool :=
  if d = .temperature then decide ((b.lineParams l).confirmTime ≤ b.tickedConfirm l) else b.condHolds l d

end Block

/-- What a second tick does to the line state record of a line, from the part before (R3, R7, R9, R14). -/
structure LscTicked (b t : Block) (l : LineId) : Prop where
  resting : (b.line l).lsc.state = .idle ∨ (b.line l).lsc.state = .firing →
    (t.line l).lsc = { (b.line l).lsc with confirm := b.tickedConfirm l }
  fires : (b.line l).lsc.state = .warmup → (∀ d, b.tickHolds l d = true) →
    (t.line l).lsc.state = .firing ∧ (t.line l).lsc.confirm = b.tickedConfirm l ∧ (t.line l).lsc.pendingConds = []
  waits : (b.line l).lsc.state = .warmup → (∃ d, b.tickHolds l d = false) →
    (t.line l).lsc = { (b.line l).lsc with
      confirm := b.tickedConfirm l, pendingConds := allFiringConds.filter fun d => !b.tickHolds l d }
  returns : (b.line l).lsc.state = .hold → (b.lineParams l).confirmTime ≤ b.tickedConfirm l →
    (t.line l).lsc.state = .firing ∧ (t.line l).lsc.hold = 0 ∧ (t.line l).lsc.confirm = b.tickedConfirm l
  holds : (b.line l).lsc.state = .hold → b.tickedConfirm l < (b.lineParams l).confirmTime →
    (b.line l).lsc.hold + 1 < (b.lineParams l).holdLimit →
    (t.line l).lsc = { (b.line l).lsc with confirm := b.tickedConfirm l, hold := (b.line l).lsc.hold + 1 }
  limit : (b.line l).lsc.state = .hold → b.tickedConfirm l < (b.lineParams l).confirmTime →
    (b.lineParams l).holdLimit ≤ (b.line l).lsc.hold + 1 →
    (t.line l).lsc.state = .rundown ∧ (t.line l).lsc.cause = .holdLimit ∧ (t.line l).lsc.hold = 0 ∧
      (t.line l).lsc.burnout = 0 ∧ t.pendingWith .holdLimit (lineNumber l) []
  burning : (b.line l).lsc.state = .rundown → (b.line l).lsc.burnout + 1 < (b.lineParams l).burnoutTime →
    (t.line l).lsc = { (b.line l).lsc with confirm := b.tickedConfirm l, burnout := (b.line l).lsc.burnout + 1 }
  burnt : (b.line l).lsc.state = .rundown → (b.lineParams l).burnoutTime ≤ (b.line l).lsc.burnout + 1 →
    (t.line l).lsc.state = .idle ∧ (t.line l).lsc.burnout = 0 ∧ (t.line l).lsc.cause = (b.line l).lsc.cause

/-- What a second tick does depends on no more of the part than the LSC reads. -/
theorem LscTicked.of_kept_before {b b1 t : Block} {l : LineId} (hb : LscKept b b1 l) (h : LscTicked b1 t l) :
    LscTicked b t l := by
  have hconfirm : b1.tickedConfirm l = b.tickedConfirm l := by simp only [Block.tickedConfirm, hb.lsc]
  have hparams : b1.lineParams l = b.lineParams l := by simp only [Block.lineParams, hb.cmc]
  have hcond : ∀ d, b1.condHolds l d = b.condHolds l d := fun d => by
    cases d <;> simp only [Block.condHolds, hb.lsc, hb.dau, hb.level, Block.healthy, Block.holder, hb.bus, hparams]
  have hholds : ∀ d, b1.tickHolds l d = b.tickHolds l d := fun d => by
    simp only [Block.tickHolds, hparams, hconfirm, hcond]
  obtain ⟨h1, h2, h3, h4, h5, h6, h7, h8⟩ := h
  simp only [hb.lsc, hconfirm, hparams, hholds] at h1 h2 h3 h4 h5 h6 h7 h8
  exact ⟨h1, h2, h3, h4, h5, h6, h7, h8⟩

/-- A step that keeps what the LSC reads keeps what the second tick has done. -/
theorem LscTicked.of_kept_after {b t u : Block} {l : LineId} (hu : LscKept t u l) (h : LscTicked b t l) :
    LscTicked b u l := by
  obtain ⟨h1, h2, h3, h4, h5, h6, h7, h8⟩ := h
  simp only [← hu.lsc, Block.pendingWith, ← hu.told] at h1 h2 h3 h4 h5 h6 h7 h8
  exact ⟨h1, h2, h3, h4, h5, h6, h7, h8⟩

/-- The timers of a line at a second tick (R3, R9, R14). -/
theorem modLsc_lscCount_lsc (b : Block) (l : LineId) : ((b.modLsc l Block.lscCount).line l).lsc = { (b.line l).lsc with
    confirm := b.tickedConfirm l
    hold := if (b.line l).lsc.state = .hold then (b.line l).lsc.hold + 1 else (b.line l).lsc.hold
    burnout := if (b.line l).lsc.state = .rundown then (b.line l).lsc.burnout + 1 else (b.line l).lsc.burnout } := by
  rw [Block.modLsc_line_self]
  rfl

/-- After the timers, each condition of R7 is the one the tick tests. -/
theorem condHolds_lscCount (b : Block) (l : LineId) (d : FiringCond) :
    (b.modLsc l Block.lscCount).condHolds l d = b.tickHolds l d := by
  cases d with
  | temperature => rw [Block.condHolds_temperature, modLsc_lscCount_lsc]; rfl
  | feedRequest => simp [Block.tickHolds, Block.condHolds, Block.lscCount]
  | causes | allowance => simp [Block.tickHolds, Block.condHolds]
  | feedstop | feeder | furnace | dosing | analyzer => rfl

/-- The second tick at a line's own LSC (R3, R7, R9, R14). -/
theorem lscTick_ticked (b : Block) (l : LineId) : LscTicked b (b.lscTick l) l := by
  have hlsc := modLsc_lscCount_lsc b l
  have hcond := condHolds_lscCount b l
  have hparams : (b.modLsc l Block.lscCount).lineParams l = b.lineParams l := rfl
  have hwarmup (hst : (b.line l).lsc.state = .warmup) : b.lscTick l = (b.modLsc l Block.lscCount).tryFire l := by
    simp [Block.lscTick, hst]
  have hhold (hst : (b.line l).lsc.state = .hold) :
      b.lscTick l = ((b.modLsc l Block.lscCount).tryHoldReturn l).tryHoldLimit l := by
    simp [Block.lscTick, hst]
  have hrundown (hst : (b.line l).lsc.state = .rundown) :
      b.lscTick l = (b.modLsc l Block.lscCount).tryBurnoutEnd l := by
    simp [Block.lscTick, hst]
  have hresting (hst : (b.line l).lsc.state = .idle ∨ (b.line l).lsc.state = .firing) :
      b.lscTick l = b.modLsc l Block.lscCount := by
    rcases hst with hst | hst <;> simp [Block.lscTick, hst]
  generalize b.modLsc l Block.lscCount = b1 at hlsc hcond hparams hwarmup hhold hrundown hresting
  have hstate : (b1.line l).lsc.state = (b.line l).lsc.state := by rw [hlsc]
  have hconfirm : (b1.line l).lsc.confirm = b.tickedConfirm l := by rw [hlsc]
  constructor
  case resting =>
    intro hst
    rw [hresting hst, hlsc]
    rcases hst with hst | hst <;> simp [hst]
  case fires =>
    intro hst hmet
    rw [hwarmup hst, b1.tryFire_met (hstate.trans hst) fun d => (hcond d).trans (hmet d), (b1.enter_firing_line l).1]
    exact ⟨rfl, hconfirm, rfl⟩
  case waits =>
    rintro hst ⟨d, hd⟩
    rw [hwarmup hst, b1.tryFire_unmet (hstate.trans hst) ⟨d, (hcond d).trans hd⟩, Block.modLsc_line_self, hlsc]
    simp [Block.unmetConds, hcond, hst]
  case returns =>
    intro hst hc
    rw [hhold hst, b1.tryHoldReturn_returns (hstate.trans hst) (by rwa [hparams, hconfirm]),
      Block.tryHoldLimit_of_ne _ (by simp), (Block.enter_firing_line _ l).1, Block.modLsc_line_self]
    exact ⟨rfl, rfl, hconfirm⟩
  case holds =>
    intro hst hc hh
    rw [hhold hst, b1.tryHoldReturn_short (by rwa [hparams, hconfirm]),
      b1.tryHoldLimit_short (by rw [hparams, hlsc]; simpa [hst] using hh), hlsc]
    simp [hst]
  case limit =>
    intro hst hc hh
    have hreached := b1.tryHoldLimit_reached (hstate.trans hst) (by rwa [hparams, hconfirm])
      (by rw [hparams, hlsc]; simpa [hst] using hh)
    rw [hhold hst, b1.tryHoldReturn_short (by rwa [hparams, hconfirm]), hreached, Block.raiseLine_line,
      (b1.enterRundown_line l .holdLimit).1]
    exact ⟨rfl, rfl, rfl, rfl, Block.raise_pendingWith _ _ _ _⟩
  case burning =>
    intro hst hb
    rw [hrundown hst, b1.tryBurnoutEnd_short (by rw [hparams, hlsc]; simpa [hst] using hb), hlsc]
    simp [hst]
  case burnt =>
    intro hst hb
    rw [hrundown hst, b1.tryBurnoutEnd_reached (hstate.trans hst) (by rw [hparams, hlsc]; simpa [hst] using hb),
      (b1.enterIdle_line l).1]
    exact ⟨rfl, rfl, by rw [hlsc]⟩

/-- A second tick leaves no rundown waiting where none waited (R108). -/
theorem lscTick_limitDue {b : Block} {l : LineId} (h : (b.line l).lsc.limitDue = none) :
    ((b.lscTick l).line l).lsc.limitDue = none := by
  have hcount : ((b.modLsc l Block.lscCount).line l).lsc.limitDue = none := by rw [modLsc_lscCount_lsc]; exact h
  have hfire {b : Block} (h : (b.line l).lsc.limitDue = none) : ((b.tryFire l).line l).lsc.limitDue = none := by
    unfold Block.tryFire
    (repeat' split) <;> simp [h]
  have hreturn {b : Block} (h : (b.line l).lsc.limitDue = none) :
      ((b.tryHoldReturn l).line l).lsc.limitDue = none := by
    unfold Block.tryHoldReturn
    split <;> simp [h]
  have hlimit {b : Block} (h : (b.line l).lsc.limitDue = none) :
      ((b.tryHoldLimit l).line l).lsc.limitDue = none := by
    unfold Block.tryHoldLimit
    split <;> simp [h, (b.enterRundown_line l .holdLimit).1]
  have hburnout {b : Block} (h : (b.line l).lsc.limitDue = none) :
      ((b.tryBurnoutEnd l).line l).lsc.limitDue = none := by
    unfold Block.tryBurnoutEnd
    split <;> simp [h, (b.enterIdle_line l).1]
  unfold Block.lscTick
  dsimp only
  split
  · exact hfire hcount
  · exact hlimit (hreturn hcount)
  · exact hburnout hcount
  all_goals exact hcount

/-! ## The whole tick -/

/-- Waiting rundowns taken, of any lines: none of this line waits. -/
theorem foldTakeLimit_kept {f : Block → LineId → Block} {l : LineId} (hf : ∀ b m, f b m = b ∨ f b m = b.takeLimit m)
    (ms : List LineId) {b : Block} (h : (b.line l).lsc.limitDue = none) :
    LscKept b (ms.foldl f b) l ∧ (ms.foldl f b).line l = b.line l := by
  induction ms generalizing b with
  | nil => exact ⟨.refl b l, rfl⟩
  | cons m ms ih =>
    have hm : LscKept b (f b m) l ∧ (f b m).line l = b.line l := by
      rcases hf b m with hfm | hfm <;> rw [hfm]
      · exact ⟨.refl b l, rfl⟩
      · exact takeLimit_kept h m
    obtain ⟨hrest, hline⟩ := ih (b := f b m) (by rw [hm.2, h])
    exact ⟨hm.1.trans hrest, hline.trans hm.2⟩

/-- The deliveries of a second tick, in any order, give a line its own second tick where none of its strokes times
out and none of its rundowns waits. -/
theorem runJobs_ticked {b : Block} {l : LineId} (due : Bool) (hq : b.StrokeQuiet l)
    (hdue : (b.line l).lsc.limitDue = none) : LscTicked b (b.runJobs (tickJobs ++ Block.balanceJob due)) l := by
  have hperm := arrange_perm b.order (tickJobs ++ Block.balanceJob due)
  have hjobs : ∀ j ∈ arrange b.order (tickJobs ++ Block.balanceJob due), TickJob j := fun j hj =>
    tickJob_of_mem (hperm.mem_iff.1 hj)
  obtain ⟨hbefore, hline⟩ : LscKept b b.takeLimits l ∧ b.takeLimits.line l = b.line l :=
    foldTakeLimit_kept (fun _ _ => .inr rfl) allLines hdue
  have hquiet : b.takeLimits.StrokeQuiet l :=
    (Block.strokeQuiet_congr (congrArg (·.gfu.phase) hline) (congrArg (·.gfu.age) hline) hbefore.cmc).2 hq
  obtain ⟨b1, hb1, htick⟩ := deliverAll_tickJobs hjobs (hperm.nodup_iff.2 (tickJobs_nodup due))
    (hperm.mem_iff.2 (lsc_mem_tickJobs due l)) hquiet
  have hdue1 : (b1.line l).lsc.limitDue = none := by rw [hb1.lsc, hbefore.lsc, hdue]
  obtain ⟨hafter, -⟩ := foldTakeLimit_kept (f := Block.takeLimitNow) (l := l)
    (fun b m => by unfold Block.takeLimitNow; split <;> simp) allLines
    (b := b.takeLimits.deliverAll (arrange b.order (tickJobs ++ Block.balanceJob due)))
    (by rw [htick.lsc, lscTick_limitDue hdue1])
  have hticked := ((lscTick_ticked b1 l).of_kept_before (hbefore.trans hb1)).of_kept_after (htick.trans hafter)
  obtain ⟨k, hrun⟩ := runJobs_of_tickJobs b fun j => tickJob_of_mem (due := due) (j := j)
  rw [hrun]
  exact hticked.of_kept_after (.setClock _ k l)

/-- A second tick that ends no minute has no deliveries but its own (R24 to R26). -/
theorem secondTick_of_no_minute {b : Block} (h : b.clock.time = none ∨
    ∃ a c : Time, b.clock.time = some a ∧ a.advance = some c ∧ c.second % 60 ≠ 0) :
    ∃ (k : Clock) (due : Bool), b.secondTick = { b with clock := k }.runJobs (tickJobs ++ Block.balanceJob due) := by
  unfold Block.secondTick
  rcases h with h | ⟨a, c, ha, hac, hmin⟩
  · rw [h]
    exact ⟨_, _, rfl⟩
  · have hcloses : Block.closesAt a c = [] := by
      have h1 : c.second % 1800 ≠ 0 := by omega
      have h2 : c.second ≠ 0 := by omega
      simp [Block.closesAt, hmin, h1, h2]
    rw [ha]
    dsimp only
    rw [hac]
    dsimp only
    unfold Block.tickTo
    rw [hcloses, List.flatMap_nil, List.append_nil]
    exact ⟨_, _, rfl⟩

/-- SECOND_TICK on a line, where the tick ends no minute and nothing put off waits. -/
theorem exec_secondTick_ticked (s : State) (order : List Owner) (l : LineId) (hlate : s.block.clock.late = [])
    (htime : s.block.clock.time = none ∨
      ∃ a c : Time, s.block.clock.time = some a ∧ a.advance = some c ∧ c.second % 60 ≠ 0)
    (hq : s.block.StrokeQuiet l) (hdue : (s.block.line l).lsc.limitDue = none) :
    ∃ t, exec (.secondTick order) s = .next t ∧ LscTicked s.block t.block l := by
  have hexec : exec (.secondTick order) s =
      .next (s.withBlock { s.block.takeLate with order := order }.secondTick) := rfl
  rw [s.block.takeLate_of_none hlate] at hexec
  refine ⟨_, hexec, ?_⟩
  obtain ⟨k, due, htick⟩ := secondTick_of_no_minute (b := { s.block with order := order }) htime
  rw [State.withBlock_block, htick]
  exact LscTicked.of_kept_before (b1 := { s.block with order := order, clock := k }) ⟨rfl, rfl, rfl, rfl, rfl, rfl⟩
    (runJobs_ticked due hq hdue)

/-- Settles O17: each command makes its one test; a second tick counts the timers and makes the same transitions,
whatever the order of its deliveries. -/
theorem holdAndBurnoutEnds : Obligations.HoldAndBurnoutEnds := by
  unfold Obligations.HoldAndBurnoutEnds
  refine ⟨fun s l => ?_, fun s order l => ?_⟩
  · obtain ⟨hreturn, hlimit, hburnout⟩ := holdAndBurnout_commands s l
    have hkept {f : Block → LineId → Block} (hf : f s.block l = s.block) :
        s.onBlock (fun b => f b l) = .next s := by rw [State.onBlock_next, hf]
    exact ⟨hreturn, fun h => hkept (s.block.tryHoldReturn_short h), hlimit,
      fun h => hkept (s.block.tryHoldLimit_short h), hburnout, fun h => hkept (s.block.tryBurnoutEnd_short h)⟩
  · intro x g p c holds hlate htime hstroke hdue
    obtain ⟨t, ht, h⟩ := exec_secondTick_ticked s order l hlate htime hstroke hdue
    exact ⟨t, ht, h.resting, h.fires, h.waits, h.returns, h.holds, h.limit, h.burning, h.burnt⟩

end Sys2Proof.Machine
end

section
/-! The calendar: a valid time advances by one second, and its stamp counts it (R23, R24, R196). -/

namespace Sys2Proof.Machine
open Sys2Proof
namespace Time

theorem valid_iff (x : Time) : x.valid = true ↔
    2001 ≤ x.year ∧ x.year ≤ 2099 ∧ 1 ≤ x.day ∧ x.day ≤ daysIn x.year ∧ x.second ≤ 86399 := by
  simp [valid, and_assoc]

/-- The days of the years from 2001 up to a year. -/
def daysBefore (year : Nat) : Nat := (List.range (year - 2001)).foldl (fun n k => n + daysIn (2001 + k)) 0

theorem sinceEpoch_eq (x : Time) : x.sinceEpoch = (daysBefore x.year + (x.day - 1)) * 86400 + x.second := rfl

theorem daysBefore_succ {year : Nat} (h : 2001 ≤ year) : daysBefore (year + 1) = daysBefore year + daysIn year := by
  obtain ⟨n, rfl⟩ := Nat.exists_eq_add_of_le h
  simp [daysBefore, Nat.add_assoc, List.range_succ]

/-- The four ways a second can end: within the day, within the year, with the year, and with 2099 (R24). -/
theorem advance_cases (x : Time) :
    (x.second + 1 < 86400 ∧ x.advance = some ⟨x.year, x.day, x.second + 1⟩) ∨
    (86400 ≤ x.second + 1 ∧ x.day + 1 ≤ daysIn x.year ∧ x.advance = some ⟨x.year, x.day + 1, 0⟩) ∨
    (86400 ≤ x.second + 1 ∧ daysIn x.year < x.day + 1 ∧ x.year + 1 ≤ 2099 ∧
      x.advance = some ⟨x.year + 1, 1, 0⟩) ∨
    (86400 ≤ x.second + 1 ∧ daysIn x.year < x.day + 1 ∧ 2099 < x.year + 1 ∧ x.advance = none) := by
  unfold advance
  split
  · next h => exact .inl ⟨h, rfl⟩
  · next hday =>
    rw [not_lt] at hday
    split
    · next h => exact .inr (.inl ⟨hday, h, rfl⟩)
    · next hyear =>
      rw [not_le] at hyear
      split
      · next h => exact .inr (.inr (.inl ⟨hday, hyear, h, rfl⟩))
      · next h => exact .inr (.inr (.inr ⟨hday, hyear, not_le.1 h, rfl⟩))

theorem daysIn_pos (year : Nat) : 1 ≤ daysIn year := by
  unfold daysIn
  split <;> decide

/-- Of the valid times only the last second of 2099 has none after it (R23, R24). -/
theorem advance_eq_none_iff {x : Time} (h : x.valid = true) : x.advance = none ↔ x = ⟨2099, 365, 86399⟩ := by
  obtain ⟨-, hyear, -, hday, hsecond⟩ := (valid_iff x).1 h
  constructor
  · intro hnone
    rcases x.advance_cases with ⟨-, hx⟩ | ⟨-, -, hx⟩ | ⟨-, -, -, hx⟩ | ⟨hs, hd, hy, -⟩
    iterate 3 simp [hnone] at hx
    obtain ⟨year, day, second⟩ := x
    obtain rfl : year = 2099 := by dsimp only at hyear hy; omega
    have hdays : daysIn 2099 = 365 := by decide
    dsimp only at hday hsecond hs hd
    rw [mk.injEq]
    omega
  · rintro rfl
    decide

/-- The time a second later is valid, and is stamped one second later (R24, R196). -/
theorem advance_valid_sinceEpoch {x y : Time} (h : x.valid = true) (hy : x.advance = some y) :
    y.valid = true ∧ y.sinceEpoch = x.sinceEpoch + 1 := by
  obtain ⟨hfirst, hlast, hday1, hday, hsecond⟩ := (valid_iff x).1 h
  rw [valid_iff, sinceEpoch_eq, sinceEpoch_eq]
  rcases x.advance_cases with ⟨hs, hx⟩ | ⟨hs, hd, hx⟩ | ⟨hs, hd, hyear, hx⟩ | ⟨-, -, -, hx⟩
  all_goals rw [hx] at hy
  · obtain rfl := Option.some.inj hy
    dsimp only
    omega
  · obtain rfl := Option.some.inj hy
    dsimp only
    omega
  · obtain rfl := Option.some.inj hy
    have hpos := daysIn_pos (x.year + 1)
    have hbefore := daysBefore_succ hfirst
    dsimp only
    omega
  · simp at hy

end Time
end Sys2Proof.Machine
end

section
/-! Deliveries in order: each owner takes its own as they came, and which of them the order puts off (R26). -/

namespace Sys2Proof.Machine
open Sys2Proof

theorem takeJob_cons (o : Owner) (k : Job) (ks : List Job) : takeJob o (k :: ks) =
    if k.owner = o then some (k, ks) else (takeJob o ks).map fun r => (r.1, k :: r.2) := rfl

/-- The delivery taken out is its owner's oldest, and every owner's others stay in their order. -/
theorem takeJob_owner {o : Owner} {js rest : List Job} {j : Job} (h : takeJob o js = some (j, rest)) :
    j.owner = o ∧ ∀ p, ((j :: rest).filter fun k => k.owner == p) = js.filter fun k => k.owner == p := by
  induction js generalizing rest with
  | nil => simp [takeJob] at h
  | cons k ks ih =>
    rw [takeJob_cons] at h
    split at h
    · next hk =>
      obtain ⟨rfl, rfl⟩ := Prod.mk.inj (Option.some.inj h)
      exact ⟨hk, fun _ => rfl⟩
    · next hk =>
      obtain ⟨⟨j', rest'⟩, hj, hpair⟩ := Option.map_eq_some_iff.1 h
      obtain ⟨rfl, rfl⟩ := Prod.mk.inj hpair
      obtain ⟨hjo, hrest⟩ := ih hj
      refine ⟨hjo, fun p => ?_⟩
      have hrestp := hrest p
      by_cases hp : k.owner = p
      · have hjp : (j'.owner == p) = false := beq_eq_false_iff_ne.2 fun g => hk (hp.trans (g.symm.trans hjo))
        rw [List.filter_cons, hjp] at hrestp
        simpa [List.filter_cons, hjp, hp] using hrestp
      · simpa [List.filter_cons, hp] using hrestp

/-- Each owner takes its deliveries in the order they came (R26). -/
theorem arrange_owner (os : List Owner) (js : List Job) (p : Owner) :
    ((arrange os js).filter fun j => j.owner == p) = js.filter fun j => j.owner == p := by
  induction os generalizing js with
  | nil => rfl
  | cons o os ih =>
    unfold arrange
    split
    · next j rest h =>
      rw [← (takeJob_owner h).2 p, List.filter_cons, List.filter_cons, ih rest]
    · exact ih js

end Sys2Proof.Machine
end

section
/-! Which deliveries the order puts off (R26, R108, R112), and what a delivery does at its owner (R24 to R26, R134). -/

namespace Sys2Proof.Machine
open Sys2Proof

/-! ## Year changes among the deliveries -/

/-- The close of R31. -/
def Close.isYearChange : Close → Bool
  | .yearChange _ _ => true
  | .minute _ _ | .halfHour _ _ _ _ | .day _ _ _ _ => false

theorem yearChanges_append (js ks : List Job) :
    Block.yearChanges (js ++ ks) = (Block.yearChanges js || Block.yearChanges ks) := List.any_append

theorem yearChanges_closeJobs (c : Close) : Block.yearChanges (closeJobs c) = c.isYearChange := by
  cases c <;> rfl

/-- The deliveries of closes hold a year change where the closes do. -/
theorem yearChanges_flatMap_closeJobs (cs : List Close) :
    Block.yearChanges (cs.flatMap closeJobs) = cs.any Close.isYearChange := by
  induction cs with
  | nil => rfl
  | cons c cs ih => rw [List.flatMap_cons, yearChanges_append, yearChanges_closeJobs, ih, List.any_cons]

theorem yearChanges_tickJobs (due : Bool) : Block.yearChanges (tickJobs ++ Block.balanceJob due) = false := by
  cases due <;> rfl

/-- No second ended by a tick changes the year of itself (R26, R31). -/
theorem closesAt_isYearChange (x y : Time) : (Block.closesAt x y).any Close.isYearChange = false := by
  unfold Block.closesAt
  (repeat' split) <;> rfl

/-! ## The balance cycle among the deliveries -/

namespace Block
variable (b : Block)

/-- A balance cycle forms its figures and leaves what the lines have delivered (R120). -/
@[simp] theorem balanceCycle_copies : b.balanceCycle.blu.copies = b.blu.copies := by
  simp [balanceCycle, allLines, List.foldl, balanceFigures]

@[simp] theorem balanceCycle_taken : b.balanceCycle.taken = b.taken := by
  simp only [taken, balanceCycle_copies]

/-- A load target leaves a line that is not FIRING as it is (R36). -/
theorem deliverTarget_of_not_firing {m : LineId} (h : (b.line m).lsc.state ≠ .firing) (l : LineId) :
    (b.deliverTarget l).line m = b.line m := by
  unfold deliverTarget
  split
  · unfold loadTarget
    split
    · next hl => exact modGfu_line_of_ne b _ fun hml => h (hml ▸ hl)
    · rfl
  · rfl

/-- Load targets, to any lines, leave a line that is not FIRING as it is (R36). -/
theorem foldl_deliverTarget_of_not_firing {m : LineId} (ls : List LineId) {b : Block}
    (h : (b.line m).lsc.state ≠ .firing) : (ls.foldl deliverTarget b).line m = b.line m := by
  induction ls generalizing b with
  | nil => rfl
  | cons l ls ih =>
    have hl := b.deliverTarget_of_not_firing h l
    exact (ih (by rwa [hl])).trans hl

/-- A balance cycle leaves a line that is not FIRING as it is (R120, R36). -/
theorem balanceCycle_of_not_firing {m : LineId} (h : (b.line m).lsc.state ≠ .firing) :
    b.balanceCycle.line m = b.line m := by
  have hconvert (f : Blu) : ({ b.applyQueue.convert with blu := f } : Block).line m = b.line m := by simp [line]
  have hmove (b : Block) (x y : Nat) (p q : Bool) : ((b.moveSetpoints x y).cycleNotices p q).line m = b.line m := by
    simp [line]
  unfold balanceCycle
  dsimp only
  rw [hmove, foldl_deliverTarget_of_not_firing _ (by rwa [hconvert]), hconvert]

/-- The newest copies put back over those a balance cycle ran on (R134). -/
theorem withTaken_withTaken_copies (x : PerLine Taken) (t : Block) (h : t.blu.copies = (b.withTaken x).blu.copies) :
    (t.withTaken b.taken).blu = { t.blu with copies := b.blu.copies } := by
  show ({ t.blu with copies := _ } : Blu) = _
  rw [h]
  rfl

end Block

/-- A balance cycle on the newest copies is the cycle of R120. -/
theorem Pass.cycle_of_taken {x : Pass} (h : x.taken = x.block.taken) :
    x.cycle = { x with block := x.block.balanceCycle } := by
  unfold Pass.cycle
  rw [h, Block.withTaken_self, ← Block.balanceCycle_taken, Block.withTaken_self]

/-- A balance cycle on older copies leaves the newest (R134). -/
theorem Pass.cycle_blu (x : Pass) : x.cycle.block.blu =
    { (x.block.withTaken x.taken).balanceCycle.blu with copies := x.block.blu.copies } :=
  x.block.withTaken_withTaken_copies x.taken _ (Block.balanceCycle_copies _)

theorem Pass.cycle_line_of_not_firing (x : Pass) {l : LineId} (h : (x.block.line l).lsc.state ≠ .firing) :
    x.cycle.block.line l = x.block.line l :=
  (x.block.withTaken x.taken).balanceCycle_of_not_firing h

/-! ## A rundown delivered, and taken among the deliveries -/

theorem PerLine.set_get {α : Type} (p : PerLine α) (l : LineId) : p.set l (p.get l) = p := by
  cases l <;> rfl

theorem Block.modLine_id (b : Block) (l : LineId) : b.modLine l id = b := by
  simp only [Block.modLine, id_eq, PerLine.set_get]

/-- Where a close brings no rundown, none is delivered (R108). -/
theorem Block.deliverLimit_none (b : Block) (l : LineId) : b.deliverLimit l none = b := b.modLine_id l

theorem Block.takeLimitNow_kept {b : Block} {l : LineId}
    (h : (b.line l).lsc.limitDue = none ∨ Owner.limitLater l ∈ b.order) : b.takeLimitNow l = b := by
  unfold Block.takeLimitNow
  split
  · rfl
  · next hn => exact (b.takeLimit_spec l).1 (h.resolve_right fun g => hn (List.contains_iff_mem.2 g))

theorem Block.takeLimitNow_takes {b : Block} {l : LineId} {c : RundownCause} (h : (b.line l).lsc.limitDue = some c)
    (hnow : Owner.limitLater l ∉ b.order) :
    b.takeLimitNow l = (b.takeRundown l c).modLsc l fun y => { y with limitDue := none } := by
  unfold Block.takeLimitNow Block.takeLimit
  rw [if_neg (fun g => hnow (List.contains_iff_mem.1 g)), h]

end Sys2Proof.Machine
end

section
/-! The second tick: its deliveries while UNSET and while RUNNING, and the clock it leaves (R24 to R26). -/

namespace Sys2Proof.Machine
open Sys2Proof
/-- SECOND_TICK first takes what was put off, then counts and delivers (R24). -/
theorem exec_secondTick (s : State) (order : List Owner) : exec (.secondTick order) s =
    .next (s.withBlock { s.block.takeLate with order := order }.secondTick) := rfl

namespace Block

/-- A second tick while UNSET (R24, R25). -/
theorem secondTick_unset {b : Block} (h : b.clock.time = none) : b.secondTick =
    { b with clock := { b.clock with
        phase := if b.clock.phase < 5 then b.clock.phase + 1 else 0
        uptime := min 4294967295 (b.clock.uptime + 1) } }.runJobs
      (tickJobs ++ balanceJob (decide (5 ≤ b.clock.phase))) := by
  have hphase : (if decide (6 ≤ b.clock.phase + 1) = true then 0 else b.clock.phase + 1) =
      if b.clock.phase < 5 then b.clock.phase + 1 else 0 := by
    simp only [decide_eq_true_eq]
    split <;> split <;> omega
  have hdue : decide (6 ≤ b.clock.phase + 1) = decide (5 ≤ b.clock.phase) := by simp
  unfold secondTick
  rw [h]
  unfold tickUnset
  dsimp only [countUptime]
  rw [hphase, hdue]
  rfl

/-- A second tick while RUNNING, before the end of 2099 (R24 to R26). -/
theorem secondTick_running {b : Block} {x y : Time} (hx : b.clock.time = some x) (hy : x.advance = some y) :
    b.secondTick =
      { b with clock := { b.clock with
          time := some y, phase := y.second % 6, uptime := min 4294967295 (b.clock.uptime + 1) } }.runJobs
        (tickJobs ++ balanceJob (y.second % 6 == 0) ++ (closesAt x y).flatMap closeJobs) := by
  unfold secondTick
  rw [hx]
  dsimp only
  rw [hy]
  rfl

/-- The clock a second tick leaves (R24, R25): uptime counted, and the time and phase by clock state, from what the
clock was but for the closes put off. -/
theorem secondTick_clock {b : Block} {k : Clock} (hk : b.clock = { k with late := b.clock.late }) :
    b.secondTick.clock.uptime = min 4294967295 (k.uptime + 1) ∧ b.secondTick.clock.lastSet = k.lastSet ∧
    (k.time = none → b.secondTick.clock.time = none ∧
      b.secondTick.clock.phase = if k.phase < 5 then k.phase + 1 else 0) ∧
    (∀ x y, k.time = some x → x.advance = some y →
      b.secondTick.clock.time = some y ∧ b.secondTick.clock.phase = y.second % 6) ∧
    (∀ x, k.time = some x → x.advance = none →
      b.secondTick.clock.time = none ∧ b.secondTick.clock.phase = 0) := by
  obtain ⟨htime, hphase, huptime, hset, -⟩ := Clock.mk.inj hk
  rw [← htime, ← hphase, ← huptime, ← hset]
  cases hx : b.clock.time with
  | none => simp [secondTick_unset hx, hx]
  | some x =>
    cases hy : x.advance with
    | none =>
      have hend : b.secondTick = b.countUptime.tickEnd x := by
        unfold secondTick
        rw [hx]
        dsimp only
        rw [hy]
      refine ⟨by simp [hend, tickEnd, countUptime, satAdd, Config.max32], by simp [hend, tickEnd, countUptime],
        nofun, fun x' y hx' hy' => ?_, fun _ _ _ => by simp [hend, tickEnd, countUptime]⟩
      rw [← Option.some.inj hx', hy] at hy'
      cases hy'
    | some y =>
      rw [secondTick_running hx hy]
      refine ⟨by simp, by simp, nofun, fun x' y' hx' hy' => ?_, fun x' hx' hy' => ?_⟩
      · rw [← Option.some.inj hx', hy] at hy'
        simp [Option.some.inj hy']
      · rw [← Option.some.inj hx', hy] at hy'
        cases hy'

/-- Of deliveries none of which is put off, all are taken at once. -/
theorem runJobs_of_none_off {b : Block} {js : List Job} (h : ∀ j ∈ js, b.putsOff js j = false) :
    b.runJobs js = b.deliver (arrange b.order js) := by
  have hnone : (arrange b.order js).filter (b.putsOff js) = [] := List.filter_eq_nil_iff.2 fun j hj => by
    simp [h j ((arrange_perm _ js).mem_iff.1 hj)]
  have hall : (arrange b.order js).filter (fun j => !b.putsOff js j) = arrange b.order js :=
    List.filter_eq_self.2 fun j hj => by simp [h j ((arrange_perm _ js).mem_iff.1 hj)]
  unfold runJobs
  dsimp only
  rw [hnone, hall, List.append_nil]

/-- Deliveries with none left from before: those not put off are taken, and the others wait (R26). -/
theorem runJobs_split (b : Block) (js : List Job) (h : b.clock.late = []) : b.runJobs js =
    { b.deliver ((arrange b.order js).filter fun j => !b.putsOff js j) with
      clock := { b.clock with late := (arrange b.order js).filter (b.putsOff js) } } := by
  unfold runJobs
  simp [h]

/-- The closes put off are all taken (R26). -/
theorem takeLate_eq_deliverAll (b : Block) :
    b.takeLate = { b with clock := { b.clock with late := [] } }.deliverAll b.clock.late := by
  unfold takeLate
  split
  · next h =>
    rw [h]
    exact congrArg (fun js => ({ b with clock := { b.clock with late := js } } : Block)) h
  · next h => rw [h]

/-- The order puts off no delivery of a second tick itself (R26). -/
theorem putsOff_tickJobs (b : Block) (js : List Job) (due : Bool) :
    ∀ j ∈ tickJobs ++ balanceJob due, b.putsOff js j = false := fun _ hj =>
  putsOff_of_tickJob b js (tickJob_of_mem hj)

end Block

/-- The deliveries of a tick that reaches a time (R24 to R26). -/
def deliveriesTo (x y : Time) : List Job :=
  tickJobs ++ Block.balanceJob (y.second % 6 == 0) ++ (Block.closesAt x y).flatMap closeJobs

theorem deliveriesTo_yearChanges (x y : Time) : Block.yearChanges (deliveriesTo x y) = false := by
  rw [deliveriesTo, yearChanges_append, yearChanges_tickJobs, yearChanges_flatMap_closeJobs, closesAt_isYearChange]
  rfl

/-- SECOND_TICK while RUNNING: every delivery is taken at once or waits (R24 to R26). -/
theorem exec_secondTick_running {s : State} (order : List Owner) {x y : Time} {b : Block}
    (hlate : s.block.clock.late = []) (hx : s.block.clock.time = some x) (hy : x.advance = some y)
    (hb : b = { s.block with order := order, clock := { s.block.clock with
      time := some y, phase := y.second % 6, uptime := min 4294967295 (s.block.clock.uptime + 1) } }) :
    let off := b.putsOff (deliveriesTo x y)
    exec (.secondTick order) s = .next (s.withBlock
      { b.deliver ((arrange order (deliveriesTo x y)).filter fun j => !off j) with
        clock := { b.clock with late := (arrange order (deliveriesTo x y)).filter off } }) := by
  subst hb
  intro off
  rw [exec_secondTick, s.block.takeLate_of_none hlate,
    Block.secondTick_running (b := { s.block with order := order }) hx hy]
  exact congrArg (fun b => Host.Outcome.next (s.withBlock b)) (Block.runJobs_split _ (deliveriesTo x y) hlate)

/-- SECOND_TICK while UNSET: every delivery is taken at once (R24, R25). -/
theorem exec_secondTick_unset {s : State} (order : List Owner) (hlate : s.block.clock.late = [])
    (htime : s.block.clock.time = none) :
    exec (.secondTick order) s = .next (s.withBlock (Block.deliver
      { s.block with order := order
                     clock := { s.block.clock with
                       phase := if s.block.clock.phase < 5 then s.block.clock.phase + 1 else 0
                       uptime := min 4294967295 (s.block.clock.uptime + 1) } }
      (arrange order (tickJobs ++ Block.balanceJob (decide (5 ≤ s.block.clock.phase)))))) := by
  rw [exec_secondTick, s.block.takeLate_of_none hlate,
    Block.secondTick_unset (b := { s.block with order := order }) htime,
    Block.runJobs_of_none_off (Block.putsOff_tickJobs _ _ _)]

/-- A minute close at a DAU: the minute counted, and the rundown it brings, if any, waiting (R105 to R108). -/
theorem run_dauMinute (x : Pass) (l : LineId) (m : MinuteId) (cut : Bool) :
    (x.block.dauRundown l (.minute m cut) = none →
      (Job.mk (.dau l) (some (.minute m cut))).run x = { x with block := x.block.dauMinute l }) ∧
    ∀ c, x.block.dauRundown l (.minute m cut) = some c → (Job.mk (.dau l) (some (.minute m cut))).run x =
      { x with block := (x.block.dauMinute l).modLsc l fun y => { y with limitDue := some c } } := by
  have hrun : (Job.mk (.dau l) (some (.minute m cut))).run x =
      { x with block := (x.block.dauMinute l).deliverLimit l (x.block.dauRundown l (.minute m cut)) } := rfl
  refine ⟨fun h => ?_, fun c h => ?_⟩
  · rw [hrun, h, Block.deliverLimit_none]
  · rw [hrun, h]
    rfl

/-- The LSC takes a waiting rundown among the deliveries, or puts it off (R108). -/
theorem run_limit (x : Pass) (l : LineId) (c : Close) :
    ((x.block.line l).lsc.limitDue = none ∨ Owner.limitLater l ∈ x.block.order →
      (Job.mk (.limit l) (some c)).run x = x) ∧
    ∀ r, (x.block.line l).lsc.limitDue = some r → Owner.limitLater l ∉ x.block.order →
      (Job.mk (.limit l) (some c)).run x =
        { x with block := (x.block.takeRundown l r).modLsc l fun y => { y with limitDue := none } } := by
  have hrun : (Job.mk (.limit l) (some c)).run x = { x with block := x.block.takeLimitNow l } := rfl
  refine ⟨fun h => ?_, fun r hr hnow => ?_⟩
  · rw [hrun, Block.takeLimitNow_kept h]
  · rw [hrun, Block.takeLimitNow_takes hr hnow]

/-- The BLU takes the line's newest state and ceiling (R21, R97). -/
theorem run_blu (x : Pass) (l : LineId) : (Job.mk (.blu l) none).run x = { x with
    taken := x.taken.set l ⟨(x.block.blu.copies.get l).state, (x.block.blu.copies.get l).ceiling⟩ } :=
  congrArg (fun t => { x with taken := x.taken.set l t }) (PerLine.get_tabulate _ l)

/-- Settles O7: the calendar, the two forms of a tick, and each delivery's effect. -/
theorem secondTickAdvancesTheClock : Obligations.SecondTickAdvancesTheClock := by
  unfold Obligations.SecondTickAdvancesTheClock
  refine ⟨fun s order => ?clock,
    fun x hx => ⟨Time.advance_eq_none_iff hx, fun y => Time.advance_valid_sinceEpoch hx⟩, fun s order _ => ?late,
    fun s order x y hlate hx hy => ?running, fun s order hlate hx => ?unset,
    fun x l u m cut r y d i => ?deliveries⟩
  case clock =>
    obtain ⟨-, -, hlevel, -, hclock, hbus, hcmc⟩ := s.block.takeLate_frame
    obtain ⟨huptime, hset, htime⟩ := Block.secondTick_clock (b := { s.block.takeLate with order := order })
      (k := s.block.clock) (by rw [hclock])
    obtain ⟨-, -, hlevel', -, hbus', hcmc'⟩ := Block.secondTick_frame { s.block.takeLate with order := order }
    exact ⟨_, exec_secondTick s order, rfl, huptime, hset, hbus'.trans hbus, hcmc'.trans hcmc, hlevel'.trans hlevel,
      htime⟩
  case late =>
    rw [exec_secondTick, exec_secondTick, State.withBlock_block, ← Block.takeLate_eq_deliverAll,
      Block.takeLate_takeLate]
    rfl
  case running =>
    intro closes jobs
    have hjobs : jobs = deliveriesTo x y := by
      simp only [jobs, deliveriesTo, Block.balanceJob, beq_iff_eq]
      rfl
    refine ⟨arrange order jobs, arrange_perm _ _, arrange_owner _ _, ?_⟩
    intro late clock t
    have hputs : Block.putsOff { s.block with order := order, clock := clock } jobs = late :=
      funext fun ⟨o, _⟩ => by cases o <;> simp [Block.putsOff, late, hjobs, deliveriesTo_yearChanges]
    have hexec := exec_secondTick_running order hlate hx hy rfl
    rw [← hjobs] at hexec
    rw [hexec]
    simp only [t, ← hputs]
    rfl
  case unset =>
    intro jobs
    have hjobs : jobs = tickJobs ++ Block.balanceJob (decide (5 ≤ s.block.clock.phase)) := by
      simp only [jobs, Block.balanceJob, decide_eq_true_eq]
    exact ⟨arrange order jobs, arrange_perm _ _, hjobs ▸ exec_secondTick_unset order hlate hx⟩
  case deliveries =>
    exact ⟨rfl, rfl, rfl, run_blu x l, Pass.cycle_of_taken,
      ⟨x.cycle_blu, rfl, rfl, rfl, fun _ => x.cycle_line_of_not_firing⟩, rfl, rfl, rfl, rfl, rfl,
      run_dauMinute x l m cut, run_limit x l (.minute m cut)⟩

end Sys2Proof.Machine
end

section
/-! CLOCK READ: the record as the reply carries it, by clock state (R33). -/

namespace Sys2Proof.Machine
open Sys2Proof

theorem optional_some {α : Type} (size : Nat) (enc : α → List Byte) (a : α) :
    optional size enc (some a) = byte 1 :: enc a := rfl

theorem optional_none {α : Type} (size : Nat) (enc : α → List Byte) :
    optional size enc none = List.replicate (size + 1) (byte 0) := rfl

theorem flag_isLeap (year : Nat) : flag (isLeap year) = [byte (if year % 4 = 0 then 1 else 0)] := by
  simp only [flag, u8, isLeap, beq_iff_eq]

/-- CLOCK READ while RUNNING: every field of the time is present (R33). -/
theorem Block.serveClockRead_running {b : Block} {x : Time} (h : b.clock.time = some x) :
    b.serveClockRead = (b, .done ([byte 1] ++ [byte 1] ++ u16 x.year ++ [byte 1] ++ u16 x.day ++
      [byte 1] ++ u32 x.second ++ [byte 1, byte (if x.year % 4 = 0 then 1 else 0)] ++
      [byte 1, byte (x.second / 1800)] ++ [byte 1, byte (x.second / 60 % 30)] ++ [byte b.clock.phase] ++
      u32 b.clock.uptime ++ optional 8 encTime b.clock.lastSet)) := by
  have hrunning : b.clockStateCode = 1 := by simp [Block.clockStateCode, Block.running, h]
  simp only [Block.serveClockRead, hrunning, h, Option.map_some, optional_some, flag_isLeap]
  simp [u8, Time.halfHour, Time.minuteOfHalfHour]

/-- CLOCK READ while UNSET: no field of the time is present (R33). -/
theorem Block.serveClockRead_unset {b : Block} (h : b.clock.time = none) :
    b.serveClockRead = (b, .done (List.replicate 18 (byte 0) ++ [byte b.clock.phase] ++
      u32 b.clock.uptime ++ optional 8 encTime b.clock.lastSet)) := by
  have hunset : b.clockStateCode = 0 := by simp [Block.clockStateCode, Block.running, h]
  simp only [Block.serveClockRead, hunset, h, Option.map_none, optional_none]
  simp [u8, List.replicate]

/-- CLOCK READ on an idle link is answered by its owner, which changes nothing (R33). -/
theorem exec_clockRead {s : State} (tag : Byte) {fields : List Byte} (h : s.block.linkIdle = true)
    (hserve : s.block.awaiting.serveClockRead = (s.block.awaiting, .done fields)) :
    exec (.clockRead tag) s = .next (s.withBlock (s.block.repliedDone .clockRead tag fields)) :=
  answered_of_unchanged h (submitKind_of_linkIdle tag h rfl hserve)

/-- Settles O9: the reply's fields by clock state. -/
theorem clockReadCarriesTheRecord : Obligations.ClockReadCarriesTheRecord := by
  unfold Obligations.ClockReadCarriesTheRecord
  intro s tag h k
  exact ⟨fun x hx => exec_clockRead tag h (Block.serveClockRead_running hx),
    fun hx => exec_clockRead tag h (Block.serveClockRead_unset hx)⟩

end Sys2Proof.Machine
end

section
/-! What the owners read and write of the part: all but the link and which notices are owed (R203). Two parts alike
but for these stay alike under every delivery, so that a CLOCK SET awaits its reply while its closes are delivered
changes none of their effects (R28, R203). -/

namespace Sys2Proof.Machine
open Sys2Proof

/-- A notice but for whether its message is owed (R202). -/
def NoticeEntry.unowed (e : NoticeEntry) : NoticeEntry := { e with owed := false }

/-- The notice table after a raise, but for what is owed (R203). -/
def raised (now : Stamp) (k : NoticeKind) (n : Nat) (d : List Byte) (es : List NoticeEntry) : List NoticeEntry :=
  if (es.find? fun e => e.is k n).isSome then
    es.map fun x =>
      if x.is k n then { x with count := satAdd Config.max8 x.count 1, last := now, detail := padDetail d } else x
  else insertEntry ⟨k, n, 1, now, now, padDetail d, false⟩ es

theorem insertEntry_unowed (e : NoticeEntry) (es : List NoticeEntry) :
    (insertEntry e es).map NoticeEntry.unowed = insertEntry e.unowed (es.map NoticeEntry.unowed) := by
  induction es with
  | nil => rfl
  | cons f fs ih =>
    have hbefore : e.unowed.before f.unowed = e.before f := rfl
    simp only [insertEntry, List.map_cons, hbefore]
    split
    · rfl
    · rw [List.map_cons, ih]

namespace Block
variable (b : Block)

/-- A notice marked owed is else as before. -/
theorem modNotices_owed_unowed (k : NoticeKind) (n : Nat) :
    (b.modNotices fun es => es.map fun x => if x.is k n then { x with owed := true } else x).notices.entries.map
      NoticeEntry.unowed = b.notices.entries.map NoticeEntry.unowed := by
  rw [modNotices_entries, List.map_map]
  refine List.map_congr_left fun e _ => ?_
  dsimp only [Function.comp]
  split <;> rfl

theorem announce_unowed (k : NoticeKind) (n : Nat) :
    (b.announce k n).notices.entries.map NoticeEntry.unowed = b.notices.entries.map NoticeEntry.unowed := by
  unfold announce
  split
  · rfl
  · split
    · rfl
    · exact b.modNotices_owed_unowed k n

/-- A raise as the table shows it does not depend on what is owed (R203). -/
theorem raise_unowed (k : NoticeKind) (n : Nat) (d : List Byte) :
    (b.raise k n d).notices.entries.map NoticeEntry.unowed =
      raised b.now k n d (b.notices.entries.map NoticeEntry.unowed) := by
  have hfind : ((b.notices.entries.map NoticeEntry.unowed).find? fun e => e.is k n).isSome =
      (b.notice k n).isSome := by
    rw [List.find?_map, Option.isSome_map]
    rfl
  unfold raised
  rw [hfind]
  unfold raise
  split
  · next e he =>
    rw [he, Option.isSome_some, if_pos rfl, modNotices_entries, List.map_map, List.map_map]
    refine List.map_congr_left fun x _ => ?_
    have his : x.unowed.is k n = x.is k n := rfl
    dsimp only [Function.comp]
    rw [his]
    split <;> rfl
  · next he =>
    rw [he, Option.isSome_none, if_neg Bool.false_ne_true]
    dsimp only
    split
    · rw [announce_unowed]
      exact insertEntry_unowed _ _
    · exact insertEntry_unowed _ _

/-- Two parts that differ at most in the link, the floor and which notices are owed. -/
structure Alike (b t : Block) : Prop where
  rest : t = { b with link := t.link, notices := t.notices }
  told : t.notices.entries.map NoticeEntry.unowed = b.notices.entries.map NoticeEntry.unowed

namespace Alike
variable {b t : Block}

theorem exists_eq (h : Alike b t) : ∃ (k : Link) (n : Notices), t = { b with link := k, notices := n } ∧
    n.entries.map NoticeEntry.unowed = b.notices.entries.map NoticeEntry.unowed := ⟨_, _, h.rest, h.told⟩

theorem of_fields (hready : t.ready = b.ready) (hcause : t.cause = b.cause) (hlevel : t.feedStop = b.feedStop)
    (horder : t.order = b.order) (hclock : t.clock = b.clock) (hlines : t.lines = b.lines) (hblu : t.blu = b.blu)
    (htdu : t.tdu = b.tdu) (hbus : t.bus = b.bus) (hrcs : t.rcs = b.rcs) (hcmc : t.cmc = b.cmc)
    (h : t.notices.entries.map NoticeEntry.unowed = b.notices.entries.map NoticeEntry.unowed) : Alike b t :=
  ⟨by simp only [← hready, ← hcause, ← hlevel, ← horder, ← hclock, ← hlines, ← hblu, ← htdu, ← hbus, ← hrcs, ← hcmc],
    h⟩

theorem ite {p q : Prop} [Decidable p] [Decidable q] {x x' y y' : Block} (hpq : p ↔ q) (hx : Alike x x')
    (hy : Alike y y') : Alike (if p then x else y) (if q then x' else y') := by
  by_cases hp : p
  · rwa [if_pos hp, if_pos (hpq.1 hp)]
  · rwa [if_neg hp, if_neg fun hq => hp (hpq.2 hq)]

theorem line (h : Alike b t) (l : LineId) : t.line l = b.line l := by
  rw [h.rest]
  rfl

theorem modLine {l : LineId} {f : Line → Line} (h : Alike b t) : Alike (b.modLine l f) (t.modLine l f) := by
  obtain ⟨k, n, rfl, told⟩ := h.exists_eq
  exact ⟨rfl, told⟩

/-! ## Notices and records -/

theorem raise {k : NoticeKind} {n : Nat} {d : List Byte} (h : Alike b t) : Alike (b.raise k n d) (t.raise k n d) := by
  have hnow : t.now = b.now := by
    rw [h.rest]
    rfl
  obtain ⟨k', n', rfl, told⟩ := h.exists_eq
  apply of_fields <;> simp [raise_unowed, hnow, told]

theorem raiseLine {k : NoticeKind} {l : LineId} {d : List Byte} (h : Alike b t) :
    Alike (b.raiseLine k l d) (t.raiseLine k l d) := h.raise

theorem enterRecord {l : LineId} {r : RecordBody} (h : Alike b t) :
    Alike (b.enterRecord l r) (t.enterRecord l r) := by
  obtain ⟨k, n, rfl, told⟩ := h.exists_eq
  unfold Block.enterRecord
  dsimp only
  cases b.rcs.records with
  | nil => exact ⟨rfl, told⟩
  | cons old rest => exact ite Iff.rfl (raise ⟨rfl, told⟩) ⟨rfl, told⟩

/-! ## Ceilings, causes and episodes -/

theorem recompute {l : LineId} (h : Alike b t) : Alike (b.recompute l) (t.recompute l) := by
  obtain ⟨k, n, rfl, told⟩ := h.exists_eq
  exact ite Iff.rfl ⟨rfl, told⟩ ⟨rfl, told⟩

theorem takeCauses {l : LineId} {c : Causes} (h : Alike b t) : Alike (b.takeCauses l c) (t.takeCauses l c) := by
  obtain ⟨k, n, rfl, told⟩ := h.exists_eq
  exact recompute ⟨rfl, told⟩

theorem ccuEnter {l : LineId} {st : LineState} (h : Alike b t) : Alike (b.ccuEnter l st) (t.ccuEnter l st) := by
  obtain ⟨k, n, rfl, told⟩ := h.exists_eq
  cases st with
  | warmup => exact recompute ⟨rfl, told⟩
  | idle | firing | hold | rundown => exact ⟨rfl, told⟩

theorem openEpisode {l : LineId} (h : Alike b t) : Alike (b.openEpisode l) (t.openEpisode l) := by
  obtain ⟨k, n, rfl, told⟩ := h.exists_eq
  exact raiseLine ⟨rfl, told⟩

theorem closeEpisode {l : LineId} {r : CloseReason} (h : Alike b t) :
    Alike (b.closeEpisode l r) (t.closeEpisode l r) := by
  obtain ⟨k, n, rfl, told⟩ := h.exists_eq
  unfold Block.closeEpisode
  dsimp only [Block.line]
  cases (b.lines.get l).dau.episode with
  | none => exact ⟨rfl, told⟩
  | some e => exact modLine (raiseLine (enterRecord ⟨rfl, told⟩))

theorem setCause {l : LineId} {x : Cause} {p : Bool} (h : Alike b t) : Alike (b.setCause l x p) (t.setCause l x p) := by
  obtain ⟨k, n, rfl, told⟩ := h.exists_eq
  unfold Block.setCause
  dsimp only
  refine ite Iff.rfl ⟨rfl, told⟩ (takeCauses (ite Iff.rfl ?opens (ite Iff.rfl ?closes ⟨rfl, told⟩)))
  case opens => exact ite Iff.rfl (openEpisode ⟨rfl, told⟩) ⟨rfl, told⟩
  case closes => exact closeEpisode ⟨rfl, told⟩

theorem dauEnter {l : LineId} {st : LineState} (h : Alike b t) : Alike (b.dauEnter l st) (t.dauEnter l st) := by
  obtain ⟨k, n, rfl, told⟩ := h.exists_eq
  cases st with
  | firing | hold => exact ite Iff.rfl (openEpisode ⟨rfl, told⟩) ⟨rfl, told⟩
  | idle => exact closeEpisode ⟨rfl, told⟩
  | warmup | rundown => exact ⟨rfl, told⟩

/-! ## Line states -/

theorem enter {l : LineId} {st : LineState} (h : Alike b t) : Alike (b.enter l st) (t.enter l st) := by
  obtain ⟨k, n, rfl, told⟩ := h.exists_eq
  exact dauEnter (ccuEnter ⟨rfl, told⟩)

theorem enterRundown {l : LineId} {c : RundownCause} (h : Alike b t) :
    Alike (b.enterRundown l c) (t.enterRundown l c) := by
  obtain ⟨k, n, rfl, told⟩ := h.exists_eq
  exact enter ⟨rfl, told⟩

theorem takeRundown {l : LineId} {c : RundownCause} (h : Alike b t) :
    Alike (b.takeRundown l c) (t.takeRundown l c) := by
  obtain ⟨k, n, rfl, told⟩ := h.exists_eq
  exact ite Iff.rfl (enterRundown ⟨rfl, told⟩) ⟨rfl, told⟩

theorem takeLimit (l : LineId) (h : Alike b t) : Alike (b.takeLimit l) (t.takeLimit l) := by
  obtain ⟨k, n, rfl, told⟩ := h.exists_eq
  unfold Block.takeLimit
  dsimp only [Block.line]
  cases (b.lines.get l).lsc.limitDue with
  | none => exact ⟨rfl, told⟩
  | some c => exact modLine (takeRundown ⟨rfl, told⟩)

theorem takeLimitNow (l : LineId) (h : Alike b t) : Alike (b.takeLimitNow l) (t.takeLimitNow l) := by
  obtain ⟨k, n, rfl, told⟩ := h.exists_eq
  exact ite Iff.rfl ⟨rfl, told⟩ (takeLimit l ⟨rfl, told⟩)

theorem deliverLimit {l : LineId} {c : Option RundownCause} (h : Alike b t) :
    Alike (b.deliverLimit l c) (t.deliverLimit l c) := by
  unfold Block.deliverLimit Block.modLsc
  exact modLine h

theorem enterIdle {l : LineId} (h : Alike b t) : Alike (b.enterIdle l) (t.enterIdle l) := by
  obtain ⟨k, n, rfl, told⟩ := h.exists_eq
  exact enter ⟨rfl, told⟩

theorem tryFire {l : LineId} (h : Alike b t) : Alike (b.tryFire l) (t.tryFire l) := by
  obtain ⟨k, n, rfl, told⟩ := h.exists_eq
  exact ite Iff.rfl (ite Iff.rfl (enter ⟨rfl, told⟩) ⟨rfl, told⟩) ⟨rfl, told⟩

theorem tryHoldReturn {l : LineId} (h : Alike b t) : Alike (b.tryHoldReturn l) (t.tryHoldReturn l) := by
  obtain ⟨k, n, rfl, told⟩ := h.exists_eq
  exact ite Iff.rfl (enter ⟨rfl, told⟩) ⟨rfl, told⟩

theorem tryHoldLimit {l : LineId} (h : Alike b t) : Alike (b.tryHoldLimit l) (t.tryHoldLimit l) := by
  obtain ⟨k, n, rfl, told⟩ := h.exists_eq
  exact ite Iff.rfl (raiseLine (enterRundown ⟨rfl, told⟩)) ⟨rfl, told⟩

theorem tryBurnoutEnd {l : LineId} (h : Alike b t) : Alike (b.tryBurnoutEnd l) (t.tryBurnoutEnd l) := by
  obtain ⟨k, n, rfl, told⟩ := h.exists_eq
  exact ite Iff.rfl (enterIdle ⟨rfl, told⟩) ⟨rfl, told⟩

theorem lscTick {l : LineId} (h : Alike b t) : Alike (b.lscTick l) (t.lscTick l) := by
  obtain ⟨k, n, rfl, told⟩ := h.exists_eq
  unfold Block.lscTick
  dsimp only [Block.line]
  cases (b.lines.get l).lsc.state with
  | warmup => exact tryFire ⟨rfl, told⟩
  | hold => exact tryHoldLimit (tryHoldReturn ⟨rfl, told⟩)
  | rundown => exact tryBurnoutEnd ⟨rfl, told⟩
  | idle | firing => exact ⟨rfl, told⟩

/-! ## Strokes -/

theorem feedFault {l : LineId} {lost : Bool} (h : Alike b t) : Alike (b.feedFault l lost) (t.feedFault l lost) := by
  obtain ⟨k, n, rfl, told⟩ := h.exists_eq
  exact ite Iff.rfl (raiseLine (enterRundown ⟨rfl, told⟩)) ⟨rfl, told⟩

theorem tryStrokeTimeout {l : LineId} (h : Alike b t) : Alike (b.tryStrokeTimeout l) (t.tryStrokeTimeout l) := by
  obtain ⟨k, n, rfl, told⟩ := h.exists_eq
  unfold Block.tryStrokeTimeout
  dsimp only
  have htimeOut (d : List Byte) : Alike ((b.modGfu l Gfu.timeOut).raiseLine .ramFault l d)
      ((Block.modGfu { b with link := k, notices := n } l Gfu.timeOut).raiseLine .ramFault l d) := raiseLine ⟨rfl, told⟩
  exact ite Iff.rfl (ite (by rw [← (htimeOut _).line]; exact Iff.rfl) (feedFault (htimeOut _)) (htimeOut _)) ⟨rfl, told⟩

theorem strokeIsDue {l : LineId} (h : Alike b t) : Alike (b.strokeIsDue l) (t.strokeIsDue l) := by
  obtain ⟨k, n, rfl, told⟩ := h.exists_eq
  exact ite Iff.rfl (ite Iff.rfl ⟨rfl, told⟩ ⟨rfl, told⟩) (ite Iff.rfl (raiseLine ⟨rfl, told⟩) ⟨rfl, told⟩)

theorem tryStrokeDue {l : LineId} (h : Alike b t) : Alike (b.tryStrokeDue l) (t.tryStrokeDue l) := by
  obtain ⟨k, n, rfl, told⟩ := h.exists_eq
  exact ite Iff.rfl (strokeIsDue ⟨rfl, told⟩) ⟨rfl, told⟩

theorem pacerCount {l : LineId} (h : Alike b t) : Alike (b.pacerCount l) (t.pacerCount l) := by
  obtain ⟨k, n, rfl, told⟩ := h.exists_eq
  exact ite Iff.rfl ⟨rfl, told⟩ ⟨rfl, told⟩

theorem gfuTick {l : LineId} (h : Alike b t) : Alike (b.gfuTick l) (t.gfuTick l) :=
  tryStrokeDue (pacerCount (tryStrokeTimeout h.modLine))

theorem gfuClose {l : LineId} {m : MinuteId} (h : Alike b t) : Alike (b.gfuClose l m) (t.gfuClose l m) := by
  obtain ⟨k, n, rfl, told⟩ := h.exists_eq
  exact ⟨rfl, told⟩

/-! ## Turbines -/

theorem tryOnline {u : TurbineId} (h : Alike b t) : Alike (b.tryOnline u) (t.tryOnline u) := by
  obtain ⟨k, n, rfl, told⟩ := h.exists_eq
  exact ite Iff.rfl ⟨rfl, told⟩ ⟨rfl, told⟩

theorem tryRunupTimeout {u : TurbineId} (h : Alike b t) : Alike (b.tryRunupTimeout u) (t.tryRunupTimeout u) := by
  obtain ⟨k, n, rfl, told⟩ := h.exists_eq
  exact ite Iff.rfl (raise ⟨rfl, told⟩) ⟨rfl, told⟩

theorem turbine (h : Alike b t) (u : TurbineId) : t.turbine u = b.turbine u := by
  rw [h.rest]
  rfl

theorem modTurbine {u : TurbineId} {f : Turbine → Turbine} (h : Alike b t) :
    Alike (b.modTurbine u f) (t.modTurbine u f) := by
  obtain ⟨k, n, rfl, told⟩ := h.exists_eq
  exact ⟨rfl, told⟩

theorem turbineTick {u : TurbineId} (h : Alike b t) : Alike (b.turbineTick u) (t.turbineTick u) := by
  obtain ⟨k, n, rfl, told⟩ := h.exists_eq
  unfold Block.turbineTick
  dsimp only
  have honline : Alike ((b.modTurbine u fun x => x.qualify (b.turbineParams u).ratedSpeed).tryOnline u)
      ((Block.modTurbine { b with link := k, notices := n } u fun x =>
        x.qualify (b.turbineParams u).ratedSpeed).tryOnline u) := tryOnline ⟨rfl, told⟩
  refine ite Iff.rfl (ite ?_ (tryRunupTimeout (modTurbine honline)) honline) ⟨rfl, told⟩
  exact Eq.congr_left (congrArg Turbine.state (honline.turbine u).symm)

/-! ## Minute work -/

theorem raiseReagentLimit {l : LineId} (h : Alike b t) : Alike (b.raiseReagentLimit l) (t.raiseReagentLimit l) := by
  obtain ⟨k, n, rfl, told⟩ := h.exists_eq
  exact ite Iff.rfl (raiseLine ⟨rfl, told⟩) ⟨rfl, told⟩

theorem raiseGuardActive {l : LineId} {s : Bool} {x : Option Pollutant} (h : Alike b t) :
    Alike (b.raiseGuardActive l s x) (t.raiseGuardActive l s x) := by
  obtain ⟨k, n, rfl, told⟩ := h.exists_eq
  cases x with
  | none => exact ⟨rfl, told⟩
  | some x => exact ite Iff.rfl (raiseLine ⟨rfl, told⟩) ⟨rfl, told⟩

theorem minuteWork {l : LineId} {m : HandOver} (h : Alike b t) : Alike (b.minuteWork l m) (t.minuteWork l m) := by
  obtain ⟨k, n, rfl, told⟩ := h.exists_eq
  exact ite Iff.rfl (recompute (raiseGuardActive (modLine (raiseReagentLimit ⟨rfl, told⟩)))) ⟨rfl, told⟩

theorem ccuClose {l : LineId} {m : MinuteId} (h : Alike b t) : Alike (b.ccuClose l m) (t.ccuClose l m) := by
  obtain ⟨k, n, rfl, told⟩ := h.exists_eq
  unfold Block.ccuClose
  dsimp only [Block.line]
  cases (b.lines.get l).ccu.unmatched with
  | closes ms => exact ⟨rfl, told⟩
  | handOvers hs =>
    cases hs with
    | nil => exact ⟨rfl, told⟩
    | cons => exact minuteWork ⟨rfl, told⟩

theorem ccuHandOver {l : LineId} {m : HandOver} (h : Alike b t) : Alike (b.ccuHandOver l m) (t.ccuHandOver l m) := by
  obtain ⟨k, n, rfl, told⟩ := h.exists_eq
  unfold Block.ccuHandOver
  dsimp only [Block.line]
  cases (b.lines.get l).ccu.unmatched with
  | handOvers hs => exact ⟨rfl, told⟩
  | closes ms =>
    cases ms with
    | nil => exact ⟨rfl, told⟩
    | cons => exact minuteWork ⟨rfl, told⟩

/-! ## Emission closes -/

theorem select {l : LineId} {x : Selection} (h : Alike b t) : Alike (b.select l x) (t.select l x) := by
  obtain ⟨k, n, rfl, told⟩ := h.exists_eq
  unfold Block.select
  dsimp only
  exact ite Iff.rfl ⟨rfl, told⟩ (ite Iff.rfl (setCause (raiseLine ⟨rfl, told⟩))
    (ite Iff.rfl (setCause (raiseLine ⟨rfl, told⟩)) (raiseLine ⟨rfl, told⟩)))

theorem returnToA {l : LineId} (h : Alike b t) : Alike (b.returnToA l) (t.returnToA l) := by
  obtain ⟨k, n, rfl, told⟩ := h.exists_eq
  exact ite Iff.rfl (select ⟨rfl, told⟩) ⟨rfl, told⟩

theorem eauMinute {l : LineId} {m : MinuteId} {cut : Bool} (h : Alike b t) :
    Alike (b.eauMinute l m cut) (t.eauMinute l m cut) := by
  obtain ⟨k, n, rfl, told⟩ := h.exists_eq
  exact returnToA (ccuHandOver ⟨rfl, told⟩)

theorem exceed {l : LineId} {x : Pollutant} {d : List Byte} (h : Alike b t) :
    Alike (b.exceed l x d) (t.exceed l x d) := by
  unfold Block.exceed Block.modEau
  exact modLine (raiseLine h)

/-- Steps along a list that each keep two parts alike. -/
theorem foldl {α : Type} {f : Block → α → Block} (hf : ∀ {b t : Block} (a : α), Alike b t → Alike (f b a) (f t a))
    (as : List α) (h : Alike b t) : Alike (as.foldl f b) (as.foldl f t) := by
  induction as generalizing b t with
  | nil => exact h
  | cons a as ih => exact ih (hf a h)

theorem exceedHalfHour {l : LineId} {i : Nat} {q : PerPollutant HalfHourQuantity} (h : Alike b t) :
    Alike (b.exceedHalfHour l i q) (t.exceedHalfHour l i q) := by
  unfold Block.exceedHalfHour
  refine foldl (fun x h => ?_) _ h
  exact ite Iff.rfl (exceed h) h

theorem eauHalfHour {l : LineId} {y d i : Nat} {cut : Bool} (h : Alike b t) :
    Alike (b.eauHalfHour l y d i cut) (t.eauHalfHour l y d i cut) := by
  obtain ⟨k, n, rfl, told⟩ := h.exists_eq
  exact ite Iff.rfl ⟨rfl, told⟩ (modLine (enterRecord (modLine (exceedHalfHour ⟨rfl, told⟩))))

theorem dayNotices {l : LineId} {q : PerPollutant DayQuantity} (x : Pollutant) (h : Alike b t) :
    Alike (b.dayNotices l q x) (t.dayNotices l q x) := by
  unfold Block.dayNotices
  dsimp only
  refine ite Iff.rfl (exceed ?_) ?_ <;> exact ite Iff.rfl (raiseLine h) h

theorem eauDay {l : LineId} {y d : Nat} {r cut : Bool} (h : Alike b t) :
    Alike (b.eauDay l y d r cut) (t.eauDay l y d r cut) := by
  obtain ⟨k, n, rfl, told⟩ := h.exists_eq
  unfold Block.eauDay
  dsimp only
  refine modLine (ite Iff.rfl (enterRecord ?_) ?_) <;> exact foldl dayNotices allPollutants ⟨rfl, told⟩

theorem eauClose {l : LineId} {c : Close} (h : Alike b t) : Alike (b.eauClose l c) (t.eauClose l c) := by
  cases c with
  | minute => exact eauMinute h
  | halfHour => exact eauHalfHour h
  | day => exact eauDay h
  | yearChange => exact h

/-! ## The minute count -/

theorem limitNotices {l : LineId} {f : LimitFound} {m u : Nat} (h : Alike b t) :
    Alike (b.limitNotices l f m u) (t.limitNotices l f m u) := by
  unfold Block.limitNotices
  have hraise {b t : Block} (h : Alike b t) {c : Bool} {k : NoticeKind} {d : List Byte} :
      Alike (if c then b.raiseLine k l d else b) (if c then t.raiseLine k l d else t) := ite Iff.rfl (raiseLine h) h
  exact hraise (hraise (hraise h))

theorem dauMinute {l : LineId} (h : Alike b t) : Alike (b.dauMinute l) (t.dauMinute l) := by
  obtain ⟨k, n, rfl, told⟩ := h.exists_eq
  have hcounted : Block.countedMinute { b with link := k, notices := n } l = b.countedMinute l := rfl
  unfold Block.dauMinute
  rw [hcounted]
  cases b.countedMinute l with
  | none => exact ⟨rfl, told⟩
  | some m => exact limitNotices ⟨rfl, told⟩

theorem dauClose {l : LineId} {c : Close} (h : Alike b t) : Alike (b.dauClose l c) (t.dauClose l c) := by
  cases c with
  | minute => exact dauMinute h
  | halfHour => exact h
  | day =>
    unfold Block.dauClose Block.dauRollover Block.modDau
    exact ite Iff.rfl h.modLine h
  | yearChange =>
    unfold Block.dauClose Block.modDau
    exact h.modLine

theorem dauRundown (h : Alike b t) (l : LineId) (c : Close) : t.dauRundown l c = b.dauRundown l c := by
  rw [h.rest]
  cases c <;> rfl

/-! ## The balance cycle -/

theorem deliverTarget (l : LineId) (h : Alike b t) : Alike (b.deliverTarget l) (t.deliverTarget l) := by
  obtain ⟨k, n, rfl, told⟩ := h.exists_eq
  unfold Block.deliverTarget
  dsimp only
  cases b.blu.figures.get l with
  | none => exact ⟨rfl, told⟩
  | some f => exact ite Iff.rfl ⟨rfl, told⟩ ⟨rfl, told⟩

theorem cycleNotices {p q : Bool} (h : Alike b t) : Alike (b.cycleNotices p q) (t.cycleNotices p q) := by
  obtain ⟨k, n, rfl, told⟩ := h.exists_eq
  have hshort {d : List Byte} {c : Prop} [Decidable c] : Alike (if c then b.raise .commitShort 0 d else b)
    (if c then Block.raise { b with link := k, notices := n } .commitShort 0 d else
      { b with link := k, notices := n }) := ite Iff.rfl (raise ⟨rfl, told⟩) ⟨rfl, told⟩
  exact ite Iff.rfl (raise hshort) hshort

theorem applyQueue (h : Alike b t) : Alike b.applyQueue t.applyQueue := by
  obtain ⟨k, n, rfl, told⟩ := h.exists_eq
  unfold Block.applyQueue
  dsimp only
  cases b.clock.time with
  | none => exact ⟨rfl, told⟩
  | some x => exact ⟨rfl, told⟩

theorem convert (h : Alike b t) : Alike b.convert t.convert := by
  obtain ⟨k, n, rfl, told⟩ := h.exists_eq
  exact ⟨rfl, told⟩

theorem moveSetpoints {x y : Nat} (h : Alike b t) : Alike (b.moveSetpoints x y) (t.moveSetpoints x y) := by
  obtain ⟨k, n, rfl, told⟩ := h.exists_eq
  exact ⟨rfl, told⟩

theorem blu (h : Alike b t) : t.blu = b.blu := by rw [h.rest]

theorem setBlu {x : Blu} (h : Alike b t) : Alike { b with blu := x } { t with blu := x } := by
  obtain ⟨k, n, rfl, told⟩ := h.exists_eq
  exact ⟨rfl, told⟩

theorem balanceFigures (h : Alike b t) : t.balanceFigures = b.balanceFigures := by
  rw [h.rest]
  rfl

theorem balanceCycle (h : Alike b t) : Alike b.balanceCycle t.balanceCycle := by
  have hconverted := h.applyQueue.convert
  unfold Block.balanceCycle
  dsimp only
  rw [h.blu, hconverted.turbine, hconverted.turbine, hconverted.balanceFigures]
  exact cycleNotices (moveSetpoints (foldl deliverTarget allLines hconverted.setBlu))

theorem taken (h : Alike b t) : t.taken = b.taken := by rw [Block.taken, h.blu]; rfl

theorem withTaken {x : PerLine Taken} (h : Alike b t) : Alike (b.withTaken x) (t.withTaken x) := by
  obtain ⟨k, n, rfl, told⟩ := h.exists_eq
  exact ⟨rfl, told⟩

theorem setClock {k : Clock} (h : Alike b t) : Alike { b with clock := k } { t with clock := k } := by
  obtain ⟨k, n, rfl, told⟩ := h.exists_eq
  exact ⟨rfl, told⟩

/-! ## Deliveries -/

theorem act (j : Job) (h : Alike b t) : Alike (j.act b) (j.act t) := by
  unfold Job.act
  split
  · exact lscTick h
  · exact gfuTick h
  · exact turbineTick h
  · exact gfuClose h
  · exact ccuClose h
  · exact eauClose h
  · rw [h.dauRundown]
    exact deliverLimit (dauClose h)
  · exact takeLimitNow _ h
  · exact h

/-- A delivery taken by its owner (R24 to R26, R134). -/
theorem run {x y : Pass} (j : Job) (h : Alike x.block y.block) (htaken : y.taken = x.taken) :
    Alike (j.run x).block (j.run y).block ∧ (j.run y).taken = (j.run x).taken := by
  unfold Job.run
  split
  · next l =>
    exact ⟨h, by rw [Pass.takeLine, Pass.takeLine, htaken, h.taken]⟩
  · refine ⟨?_, htaken⟩
    rw [Pass.cycle, Pass.cycle, htaken, h.taken]
    exact withTaken (balanceCycle (withTaken h))
  · exact ⟨act j h, htaken⟩

theorem takeJobs {x y : Pass} (js : List Job) (h : Alike x.block y.block) (htaken : y.taken = x.taken) :
    Alike (x.takeJobs js).block (y.takeJobs js).block := by
  induction js generalizing x y with
  | nil => exact h
  | cons j js ih =>
    obtain ⟨hblock, htaken⟩ := run j h htaken
    exact ih hblock htaken

theorem deliverAll {js : List Job} (h : Alike b t) : Alike (b.deliverAll js) (t.deliverAll js) :=
  takeJobs js (x := ⟨b, b.taken⟩) (y := ⟨t, t.taken⟩) h h.taken

theorem deliver {js : List Job} (h : Alike b t) : Alike (b.deliver js) (t.deliver js) := by
  have hbefore : Alike b.takeLimits t.takeLimits := foldl takeLimit allLines h
  exact foldl takeLimitNow allLines hbefore.deliverAll

end Alike
end Block
end Sys2Proof.Machine
end

section
/-! CLOCK SET: the refusals, the closes it delivers at the old time, and what it stores and replies (R28 to R31). -/

namespace Sys2Proof.Machine
open Sys2Proof

/-! ## The request -/

/-- The payload of a CLOCK SET reads back as the host sent it (R191). -/
theorem clockSet_fields (y d : Word16) (c : Word32) :
    field (wire16 y ++ wire16 d ++ wire32 c) 0 2 = y.toNat ∧ field (wire16 y ++ wire16 d ++ wire32 c) 2 2 = d.toNat ∧
    field (wire16 y ++ wire16 d ++ wire32 c) 4 4 = c.toNat := by
  have hy := y.isLt
  have hd := d.isLt
  have hc := c.isLt
  simp only [field, wire16, wire32, u16, u32, leNat, byte, List.cons_append, List.nil_append, List.drop_succ_cons,
    List.drop_zero, List.take_succ_cons, List.take_zero, BitVec.toNat_ofNat]
  omega

/-- CLOCK SET on an idle link is its owner's action, then the reply (R28). -/
theorem exec_clockSet {s : State} (tag : Byte) {y d : Word16} {c : Word32} {t : Block} {r : Reply}
    (h : s.block.linkIdle = true) (hserve : s.block.awaiting.serveClockSet y.toNat d.toNat c.toNat = (t, r)) :
    exec (.clockSet tag y d c) s = .next (s.withBlock (t.replied .clockSet tag r)) := by
  refine submitKind_of_linkIdle tag h rfl ?_
  obtain ⟨hy, hd, hc⟩ := clockSet_fields y d c
  unfold Block.serveKind
  dsimp only
  rw [hy, hd, hc, hserve]

namespace Block
variable {b : Block}

theorem setForbidden_iff (b : Block) (new : Time) : b.setForbidden new = true ↔
    (∃ x, b.clock.time = some x ∧ x.year ≠ new.year) ∧ b.allIdle = false := by
  unfold setForbidden
  cases b.clock.time <;> simp

theorem serveClockSet_invalid {y d c : Nat} (h : (Time.mk y d c).valid = false) :
    b.serveClockSet y d c = (b, refuse .range) := by
  simp [serveClockSet, h]

theorem serveClockSet_forbidden {y d c : Nat} (h : (Time.mk y d c).valid = true)
    (hf : b.setForbidden ⟨y, d, c⟩ = true) : b.serveClockSet y d c = (b, refuse .wrongState) := by
  simp [serveClockSet, h, hf]

theorem serveClockSet_accepted {y d c : Nat} (h : (Time.mk y d c).valid = true)
    (hf : b.setForbidden ⟨y, d, c⟩ = false) : b.serveClockSet y d c =
      (b.setTime ⟨y, d, c⟩ (b.closesOfSet ⟨y, d, c⟩),
        .done (u8 1 ++ encTime ⟨y, d, c⟩ ++ u8 (cutSet (b.closesOfSet ⟨y, d, c⟩)))) := by
  simp [serveClockSet, h, hf]

/-! ## The closes and the cut set -/

theorem closesOfSet_unset (h : b.clock.time = none) (new : Time) : b.closesOfSet new = [] := by
  rw [closesOfSet, h]

theorem closesOfSet_running {x : Time} (h : b.clock.time = some x) (new : Time) :
    b.closesOfSet new = setCloses x new := by
  rw [closesOfSet, h]

/-- The cut set tells which closes are among those delivered (R28). -/
theorem cutSet_of_flags (m : MinuteId) (year day i old new : Nat) (hh dd : Bool) (p : Prop) [Decidable p] :
    cutSet ([.minute m true] ++ (if hh then [] else [.halfHour year day i true]) ++
      (if dd then [] else [.day year day false true]) ++ (if p then [] else [.yearChange old new])) =
        setBits [true, !hh, !dd, !decide p] := by
  by_cases hp : p <;> cases hh <;> cases dd <;> simp [cutSet, hp]

/-- The cut set of a set while RUNNING (R28, R30). -/
theorem cutSet_setCloses (x new : Time) : cutSet (setCloses x new) = setBits
    [true, x.year != new.year || x.day != new.day || x.second / 1800 != new.second / 1800,
     x.year != new.year || x.day != new.day, x.year != new.year] := by
  unfold setCloses
  dsimp only
  rw [cutSet_of_flags, Bool.not_and, Bool.not_and]
  rfl

/-! ## What an accepted set leaves -/

/-- An accepted set: what waited is taken, then the closes at the old time but for those put off; then the new time
and last set are stored (R28 to R31). -/
theorem setTime_eq (b : Block) (new : Time) (cs : List Close) :
    let off := b.putsOff (cs.flatMap closeJobs)
    let js := arrange b.order (cs.flatMap closeJobs)
    b.setTime new cs = { b.takeLate.deliver (js.filter fun j => !off j) with
      clock := { b.clock with time := some new, lastSet := some new, late := js.filter off } } := by
  obtain ⟨-, -, -, horder, hclock, -, -⟩ := b.takeLate_frame
  have hoff : b.takeLate.putsOff (cs.flatMap closeJobs) = b.putsOff (cs.flatMap closeJobs) := by
    unfold putsOff
    rw [horder]
  intro off js
  unfold setTime
  rw [runJobs_split _ _ (by rw [hclock]), horder, hoff, hclock]

end Block

/-- A notice's fields but for whether its message is owed (R202). -/
def NoticeEntry.shown (e : NoticeEntry) : NoticeKind × Nat × Nat × Stamp × Stamp × List Byte :=
  (e.kind, e.subject, e.count, e.first, e.last, e.detail)

namespace Block.Alike
variable {b t : Block}

theorem takeLate (h : Alike b t) : Alike b.takeLate t.takeLate := by
  have hclock : t.clock = b.clock := by rw [h.rest]
  rw [takeLate_eq_deliverAll, takeLate_eq_deliverAll, hclock]
  exact h.setClock.deliverAll

/-- A request that awaits its reply (R203). -/
theorem awaiting (b : Block) : Alike b b.awaiting := ⟨rfl, rfl⟩

theorem replied {k : ReqKind} {tag : Byte} {r : Reply} (h : Alike b t) : Alike b (t.replied k tag r) :=
  ⟨by rw [h.rest]; rfl, h.told⟩

theorem shown (h : Alike b t) :
    t.notices.entries.map NoticeEntry.shown = b.notices.entries.map NoticeEntry.shown := by
  have hshown : NoticeEntry.shown = NoticeEntry.shown ∘ NoticeEntry.unowed := rfl
  rw [hshown, ← List.map_map, ← List.map_map, h.told]

/-- What two parts alike share (R203). -/
theorem fields (h : Alike b t) : t.clock = b.clock ∧ t.bus = b.bus ∧ t.cmc = b.cmc ∧ t.lines = b.lines ∧
    t.blu = b.blu ∧ t.tdu = b.tdu ∧ t.rcs = b.rcs ∧
    t.notices.entries.map NoticeEntry.shown = b.notices.entries.map NoticeEntry.shown := by
  refine ⟨?_, ?_, ?_, ?_, ?_, ?_, ?_, h.shown⟩ <;> rw [h.rest]

end Block.Alike

/-- An accepted CLOCK SET on an idle link: the new time and last set are stored, and the rest of the part is as the
deliveries of its closes leave it, but for the link (R28 to R31). That the request awaits its reply while they are
taken changes none of their effects. -/
theorem exec_clockSet_accepted {s : State} (tag : Byte) {y d : Word16} {c : Word32} {new : Time}
    (hnew : new = ⟨y.toNat, d.toNat, c.toNat⟩) (h : s.block.linkIdle = true) (hvalid : new.valid = true)
    (hallowed : s.block.setForbidden new = false) :
    let cs := s.block.closesOfSet new
    let off := s.block.putsOff (cs.flatMap closeJobs)
    let js := arrange s.block.order (cs.flatMap closeJobs)
    let u := s.block.takeLate.deliver (js.filter fun j => !off j)
    ∃ t, exec (.clockSet tag y d c) s = .next (s.withBlock t) ∧
      t.clock = { s.block.clock with time := some new, lastSet := some new, late := js.filter off } ∧
      t.bus = s.block.bus ∧ t.cmc = s.block.cmc ∧ t.lines = u.lines ∧ t.blu = u.blu ∧ t.tdu = u.tdu ∧
      t.rcs = u.rcs ∧ t.notices.entries.map NoticeEntry.shown = u.notices.entries.map NoticeEntry.shown ∧
      t.lastReply .clockSet tag (.done (u8 1 ++ encTime new ++ u8 (Block.cutSet cs))) := by
  subst hnew
  intro cs off js u
  have hexec := exec_clockSet tag h (Block.serveClockSet_accepted (b := s.block.awaiting) hvalid hallowed)
  rw [Block.setTime_eq] at hexec
  have hlike (k : Clock) (r : Reply) : Block.Alike { u with clock := k } (Block.replied
      { s.block.awaiting.takeLate.deliver (js.filter fun j => !off j) with clock := k } .clockSet tag r) :=
    (Block.Alike.awaiting s.block).takeLate.deliver.setClock.replied
  obtain ⟨hclock, hbus, hcmc, hlines, hblu, htdu, hrcs, hshown⟩ := (hlike { s.block.clock with
    time := some _, lastSet := some _, late := js.filter off } _).fields
  exact ⟨_, hexec, hclock, hbus.trans (by simp [u]), hcmc.trans (by simp [u]), hlines, hblu, htdu, hrcs, hshown,
    Block.replied_lastReply _ _ _ _⟩

/-- Settles O8: the refusals, and the accepted set through the deliveries of its closes. -/
theorem clockSetStoresTheTime : Obligations.ClockSetStoresTheTime := by
  unfold Obligations.ClockSetStoresTheTime
  intro s tag y d c h new closes told
  refine ⟨fun hinvalid => ?invalid, fun hvalid hyear hidle => ?forbidden, fun hvalid hmay => ?accepted⟩
  case invalid => exact answered_of_unchanged h (exec_clockSet tag h (Block.serveClockSet_invalid hinvalid))
  case forbidden =>
    exact answered_of_unchanged h (exec_clockSet tag h (Block.serveClockSet_forbidden hvalid
      ((Block.setForbidden_iff _ _).2 ⟨hyear, hidle⟩)))
  case accepted =>
    have hallowed : s.block.setForbidden new = false := by
      rw [Bool.eq_false_iff, Ne, Block.setForbidden_iff]
      rintro ⟨⟨x, hx, hne⟩, hidle⟩
      rcases hmay with hnone | ⟨x', hx', heq⟩ | hidle'
      · exact nomatch hnone.symm.trans hx
      · exact hne ((Option.some.inj (hx.symm.trans hx')) ▸ heq)
      · exact nomatch hidle'.symm.trans hidle
    have hcloses : s.block.closesOfSet new = closes := by
      simp only [closes, Block.closesOfSet]
      cases s.block.clock.time <;> rfl
    have haccepted := exec_clockSet_accepted tag rfl h hvalid hallowed
    rw [hcloses, Block.takeLate_eq_deliverAll] at haccepted
    obtain ⟨t, hexec, hclock, hbus, hcmc, heffects⟩ := haccepted
    refine ⟨_, hexec, ?clock, hbus, hcmc, ⟨arrange s.block.order (closes.flatMap closeJobs), arrange_perm _ _,
      arrange_owner _ _, ?effects⟩, ?reply⟩
    case clock => rw [State.withBlock_block, hclock]
    case effects =>
      intro late u
      have hputs : s.block.putsOff (closes.flatMap closeJobs) = late := funext fun ⟨o, _⟩ => by
        cases o with
        | dau l =>
          simp only [Block.putsOff, late, yearChanges_flatMap_closeJobs, List.contains_eq_mem, List.not_any_eq_all_not]
          congr 2
          funext c
          cases c <;> rfl
        | _ => simp [Block.putsOff, late]
      rw [hputs] at hclock heffects
      obtain ⟨hlines, hblu, htdu, hrcs, hshown, -⟩ := heffects
      exact ⟨congrArg Clock.late hclock, hlines, hblu, htdu, hrcs, hshown⟩
    case reply =>
      obtain ⟨-, -, -, -, -, hreply⟩ := heffects
      rw [← hcloses] at hreply
      cases hx : s.block.clock.time with
      | none =>
        rw [Block.closesOfSet_unset hx] at hreply
        exact hreply
      | some x =>
        rw [Block.closesOfSet_running hx, Block.cutSet_setCloses] at hreply
        exact hreply

end Sys2Proof.Machine
end

section
/-! What a line's load and LHV estimate rest on: the few things that can happen to the line's state and its GFU's
load record (R34 to R37, R51, R52), and that every operation of the part does nothing else to them. -/

namespace Sys2Proof.Machine
open Sys2Proof

/-! ## The moves of a line's load and LHV estimate -/

/-- What a line's load and LHV estimate rest on: its state, and its GFU's record. -/
def Line.feed (x : Line) : LineState × Gfu := (x.lsc.state, x.gfu)

/-- The events on a line's state and its GFU's record: a change of state (R35), a new effective ceiling (R37), a load
target in FIRING (R36), the estimator (R52), a full reset, and what leaves load, ceiling and LHV estimate alone. -/
inductive FeedMove : LineState × Gfu → LineState × Gfu → Prop
  | enters (x : LineState) (g : Gfu) (minLoad : Nat) (st : LineState) : FeedMove (x, g) (st, g.enter minLoad st)
  | ceiling (x : LineState) (g : Gfu) (c : Nat) : FeedMove (x, g) (x, g.takeCeiling (x == .firing) c)
  | target (g : Gfu) (target step : Nat) : FeedMove (.firing, g) (.firing, g.takeTarget target step)
  | estimates (x : LineState) (g : Gfu) (p : LineParams) : FeedMove (x, g) (x, g.estimate p)
  | reset (x : LineState × Gfu) : FeedMove x Line.reset.feed
  | other (x : LineState) {g g' : Gfu} (hload : g'.load = g.load) (hceiling : g'.ceiling = g.ceiling)
      (hlhv : g'.lhv = g.lhv) : FeedMove (x, g) (x, g')

/-- From one part to the other nothing but such events have happened to any line. -/
def Block.Fed (a b : Block) : Prop := ∀ l, Relation.ReflTransGen FeedMove (a.line l).feed (b.line l).feed

/-! ## Two updates of one line are one -/

theorem PerLine.set_set {α : Type} (p : PerLine α) (l : LineId) (x y : α) : (p.set l x).set l y = p.set l y := by
  cases l <;> rfl

namespace Block

theorem modLine_modLine (b : Block) (l : LineId) (f g : Line → Line) :
    (b.modLine l f).modLine l g = b.modLine l fun x => g (f x) := by
  simp [modLine, PerLine.set_set]

theorem modGfu_modGfu (b : Block) (l : LineId) (f g : Gfu → Gfu) :
    (b.modGfu l f).modGfu l g = b.modGfu l fun x => g (f x) := b.modLine_modLine l _ _

theorem modLsc_modGfu (b : Block) (l : LineId) (f : Lsc → Lsc) (g : Gfu → Gfu) :
    (b.modLsc l f).modGfu l g = b.modLine l fun x => { x with lsc := f x.lsc, gfu := g x.gfu } :=
  b.modLine_modLine l _ _

namespace Fed
variable {a b t : Block}

theorem refl (b : Block) : Fed b b := fun _ => .refl

/-! ## Updates of one block's record -/

theorem of_lines (h : Fed a b) (ht : t.lines = b.lines) : Fed a t := fun l => by
  rw [show t.line l = b.line l from congrArg (·.get l) ht]
  exact h l

theorem modLine {l : LineId} {f : Line → Line} (h : Fed a b)
    (hf : Relation.ReflTransGen FeedMove (b.line l).feed (f (b.line l)).feed) : Fed a (b.modLine l f) := fun m => by
  by_cases hm : m = l
  · subst hm
    rw [modLine_line_self]
    exact (h m).trans hf
  · rw [modLine_line_of_ne b f hm]
    exact h m

theorem modLsc {l : LineId} {f : Lsc → Lsc} (h : Fed a b) (hf : ∀ x, (f x).state = x.state := by exact fun _ => rfl) :
    Fed a (b.modLsc l f) := by
  refine h.modLine ?_
  rw [show Line.feed { b.line l with lsc := f (b.line l).lsc } = (b.line l).feed from
    congrArg (·, (b.line l).gfu) (hf _)]

theorem modEau {l : LineId} {f : Eau → Eau} (h : Fed a b) : Fed a (b.modEau l f) := h.modLine .refl
theorem modCcu {l : LineId} {f : Ccu → Ccu} (h : Fed a b) : Fed a (b.modCcu l f) := h.modLine .refl
theorem modDau {l : LineId} {f : Dau → Dau} (h : Fed a b) : Fed a (b.modDau l f) := h.modLine .refl

theorem modCopy {l : LineId} {f : LineCopy → LineCopy} (h : Fed a b) : Fed a (b.modCopy l f) := h.of_lines rfl
theorem setClock {k : Clock} (h : Fed a b) : Fed a { b with clock := k } := h.of_lines rfl

theorem modGfu {l : LineId} {f : Gfu → Gfu} (h : Fed a b)
    (hf : FeedMove (b.line l).feed ((b.line l).lsc.state, f (b.line l).gfu)) : Fed a (b.modGfu l f) :=
  h.modLine (.single hf)

/-- An update of a GFU that leaves load, ceiling and LHV estimate alone. -/
theorem modGfu_other {l : LineId} {f : Gfu → Gfu} (h : Fed a b)
    (hf : ∀ g, (f g).load = g.load ∧ (f g).ceiling = g.ceiling ∧ (f g).lhv = g.lhv) : Fed a (b.modGfu l f) :=
  h.modGfu (.other _ (hf _).1 (hf _).2.1 (hf _).2.2)

theorem ite {p : Prop} [Decidable p] (hb : Fed a b) (ht : Fed a t) : Fed a (if p then b else t) := by
  split
  · exact hb
  · exact ht

theorem foldl {α : Type} {f : Block → α → Block} (hf : ∀ b x, Fed a b → Fed a (f b x)) (xs : List α) (h : Fed a b) :
    Fed a (xs.foldl f b) := by
  induction xs generalizing b with
  | nil => exact h
  | cons x xs ih => exact ih (hf b x h)

/-! ## Notices and records -/

theorem raise {k : NoticeKind} {n : Nat} {d : List Byte} (h : Fed a b) : Fed a (b.raise k n d) := h.of_lines (by simp)

theorem raiseLine {k : NoticeKind} {l : LineId} {d : List Byte} (h : Fed a b) : Fed a (b.raiseLine k l d) := h.raise

theorem enterRecord {l : LineId} {r : RecordBody} (h : Fed a b) : Fed a (b.enterRecord l r) := h.of_lines (by simp)

/-! ## Ceilings, causes and episodes -/

theorem recompute {l : LineId} (h : Fed a b) : Fed a (b.recompute l) := by
  unfold Block.recompute
  refine .ite h (modCopy (modGfu h.modCcu ?_))
  rw [modCcu_line_self]
  exact .ceiling _ _ _

theorem setHostCeiling {l : LineId} {v : Nat} (h : Fed a b) : Fed a (b.setHostCeiling l v) := h.modCcu.recompute

theorem takeCauses {l : LineId} {c : Causes} (h : Fed a b) : Fed a (b.takeCauses l c) := h.modCcu.recompute

theorem deviationCeilingWritten {l : LineId} (h : Fed a b) : Fed a (b.deviationCeilingWritten l) :=
  .ite h h.modCcu.recompute

theorem ccuEnter {l : LineId} {st : LineState} (h : Fed a b) : Fed a (b.ccuEnter l st) := by
  cases st with
  | warmup => exact h.modCcu.recompute
  | idle => exact h.modCcu
  | firing | hold | rundown => exact h

theorem openEpisode {l : LineId} (h : Fed a b) : Fed a (b.openEpisode l) := h.modDau.raiseLine

theorem closeEpisode {l : LineId} {r : CloseReason} (h : Fed a b) : Fed a (b.closeEpisode l r) := by
  unfold Block.closeEpisode
  split
  · exact h
  · exact h.enterRecord.raiseLine.modDau

theorem setCause {l : LineId} {x : Cause} {p : Bool} (h : Fed a b) : Fed a (b.setCause l x p) :=
  .ite h (takeCauses (.ite (.ite h.modDau.openEpisode h.modDau) (.ite h.modDau.closeEpisode h.modDau)))

theorem dauEnter {l : LineId} {st : LineState} (h : Fed a b) : Fed a (b.dauEnter l st) := by
  cases st with
  | firing | hold => exact .ite h.openEpisode h
  | idle => exact h.closeEpisode
  | warmup | rundown => exact h

theorem dosingEvent {l : LineId} {f : Ccu → Ccu} (h : Fed a b) : Fed a (b.dosingEvent l f) :=
  .ite h.modCcu h.modCcu.setCause

/-! ## Line states -/

/-- A change of line state reaches the GFU with it (R21, R35). -/
theorem enter {l : LineId} {st : LineState} (h : Fed a b) : Fed a (b.enter l st) := by
  have hstored : Fed a ((b.modLsc l fun x => { x with state := st, pendingConds := [] }).modGfu l fun g =>
      g.enter (b.lineParams l).minLoad st) := by
    rw [modLsc_modGfu]
    exact h.modLine (.single (.enters _ _ _ _))
  exact hstored.modCopy.ccuEnter.dauEnter

theorem enterRundown {l : LineId} {c : RundownCause} (h : Fed a b) : Fed a (b.enterRundown l c) := h.modLsc.enter

theorem takeRundown {l : LineId} {c : RundownCause} (h : Fed a b) : Fed a (b.takeRundown l c) := .ite h.enterRundown h

theorem deliverLimit {l : LineId} {c : Option RundownCause} (h : Fed a b) : Fed a (b.deliverLimit l c) := h.modLsc

theorem takeLimit (l : LineId) (h : Fed a b) : Fed a (b.takeLimit l) := by
  unfold Block.takeLimit
  split
  · exact h
  · exact h.takeRundown.modLsc

theorem takeLimitNow (l : LineId) (h : Fed a b) : Fed a (b.takeLimitNow l) := .ite h (h.takeLimit l)

theorem takeLimits (h : Fed a b) : Fed a b.takeLimits := foldl (fun _ l h => h.takeLimit l) _ h

theorem enterIdle {l : LineId} (h : Fed a b) : Fed a (b.enterIdle l) := h.modLsc.enter

theorem enterWarmup {l : LineId} {feed : Bool} (h : Fed a b) : Fed a (b.enterWarmup l feed) := h.modLsc.enter

theorem enterHold {l : LineId} {c : TempCause} (h : Fed a b) : Fed a (b.enterHold l c) := h.modLsc.enter.raiseLine

theorem furnaceSample {l : LineId} {temp : Nat} {status : OkFault} (h : Fed a b) :
    Fed a (b.furnaceSample l temp status) := .ite h.modLsc.enterHold h.modLsc

theorem furnaceCleared {l : LineId} (h : Fed a b) : Fed a (b.furnaceCleared l) := h.modLsc

theorem furnaceLoss {l : LineId} (h : Fed a b) : Fed a (b.furnaceLoss l) :=
  .ite h.furnaceCleared.enterHold h.furnaceCleared

theorem feedFault {l : LineId} {lost : Bool} (h : Fed a b) : Fed a (b.feedFault l lost) :=
  .ite h.enterRundown.raiseLine h

theorem abort {l : LineId} (h : Fed a b) : Fed a (b.modGfu l Gfu.abort) := h.modGfu_other fun _ => ⟨rfl, rfl, rfl⟩

theorem feederLoss {l : LineId} (h : Fed a b) : Fed a (b.feederLoss l) := h.feedFault.abort

theorem tryFire {l : LineId} (h : Fed a b) : Fed a (b.tryFire l) := .ite (.ite h.enter h.modLsc) h

theorem tryHoldReturn {l : LineId} (h : Fed a b) : Fed a (b.tryHoldReturn l) := .ite h.modLsc.enter h

theorem tryHoldLimit {l : LineId} (h : Fed a b) : Fed a (b.tryHoldLimit l) := .ite h.enterRundown.raiseLine h

theorem tryBurnoutEnd {l : LineId} (h : Fed a b) : Fed a (b.tryBurnoutEnd l) := .ite h.enterIdle h

theorem lscTick {l : LineId} (h : Fed a b) : Fed a (b.lscTick l) := by
  have hcount : Fed a (b.modLsc l lscCount) := h.modLsc
  unfold Block.lscTick
  cases (b.line l).lsc.state with
  | warmup => exact hcount.tryFire
  | hold => exact hcount.tryHoldReturn.tryHoldLimit
  | rundown => exact hcount.tryBurnoutEnd
  | idle | firing => exact hcount

theorem feedStopLine (l : LineId) (h : Fed a b) : Fed a (b.feedStopLine l) := by
  unfold Block.feedStopLine
  cases (b.line l).lsc.state with
  | firing | hold => exact h.enterRundown.abort.raiseLine
  | warmup => exact h.modLsc.abort.raiseLine
  | idle | rundown => exact h.abort.raiseLine

theorem feedStopTaken (h : Fed a b) : Fed a b.feedStopTaken :=
  foldl (fun _ l h => h.feedStopLine l) _ (h.of_lines rfl)

/-! ## Feeding -/

theorem loadTarget {l : LineId} {target : Nat} (h : Fed a b) : Fed a (b.loadTarget l target) := by
  unfold Block.loadTarget
  split
  · next hst =>
    refine h.modGfu ?_
    rw [Line.feed, hst]
    exact .target _ _ _
  · exact h

theorem feederReport {l : LineId} {pos : RamPosition} {status : OkFault} (h : Fed a b) :
    Fed a (b.feederReport l pos status) := by
  unfold Block.feederReport
  split
  · exact .ite (modEau (h.modGfu_other fun _ => ⟨rfl, rfl, rfl⟩)) (h.modGfu_other fun _ => ⟨rfl, rfl, rfl⟩)
  · refine h.modGfu_other fun g => ?_
    unfold Gfu.complete
    dsimp only
    split <;> exact ⟨rfl, rfl, rfl⟩
  · exact h

theorem steamSample {l : LineId} {steam : Nat} {status : OkFault} (h : Fed a b) :
    Fed a (b.steamSample l steam status) := by
  cases status with
  | ok => exact h.modGfu_other fun _ => ⟨rfl, rfl, rfl⟩
  | fault => exact h

/-- A minute close stores its slot and empties the accumulators; then the estimator runs (R51, R52). -/
theorem gfuClose {l : LineId} {m : MinuteId} (h : Fed a b) : Fed a (b.gfuClose l m) := by
  refine h.modLine (.tail (.single (.other _ ?_ ?_ ?_)) (.estimates _ _ _)) <;> rfl

theorem tryStrokeTimeout {l : LineId} (h : Fed a b) : Fed a (b.tryStrokeTimeout l) := by
  have htimeOut : Fed a (b.modGfu l Gfu.timeOut) := h.modGfu_other fun _ => ⟨rfl, rfl, rfl⟩
  exact .ite (.ite htimeOut.raiseLine.feedFault htimeOut.raiseLine) h

theorem strokeIsDue {l : LineId} (h : Fed a b) : Fed a (b.strokeIsDue l) :=
  .ite (.ite (h.modGfu_other fun _ => ⟨rfl, rfl, rfl⟩) h)
    (.ite (raiseLine (h.modGfu_other fun _ => ⟨rfl, rfl, rfl⟩)) (h.modGfu_other fun _ => ⟨rfl, rfl, rfl⟩))

theorem tryStrokeDue {l : LineId} (h : Fed a b) : Fed a (b.tryStrokeDue l) :=
  .ite (strokeIsDue (h.modGfu_other fun _ => ⟨rfl, rfl, rfl⟩)) h

theorem pacerCount {l : LineId} (h : Fed a b) : Fed a (b.pacerCount l) :=
  .ite (h.modGfu_other fun _ => ⟨rfl, rfl, rfl⟩) (h.modGfu_other fun _ => ⟨rfl, rfl, rfl⟩)

theorem gfuTick {l : LineId} (h : Fed a b) : Fed a (b.gfuTick l) := by
  refine (tryStrokeTimeout (h.modGfu_other fun g => ?_)).pacerCount.tryStrokeDue
  unfold strokeAge
  split <;> exact ⟨rfl, rfl, rfl⟩

/-! ## Minute work and emission -/

theorem raiseReagentLimit {l : LineId} (h : Fed a b) : Fed a (b.raiseReagentLimit l) := h.of_lines (by simp)

theorem raiseGuardActive {l : LineId} {s : Bool} {x : Option Pollutant} (h : Fed a b) :
    Fed a (b.raiseGuardActive l s x) := h.of_lines (by simp)

theorem minuteWork {l : LineId} {m : HandOver} (h : Fed a b) : Fed a (b.minuteWork l m) :=
  .ite h.modCcu.raiseReagentLimit.modCcu.raiseGuardActive.recompute h

theorem ccuClose {l : LineId} {m : MinuteId} (h : Fed a b) : Fed a (b.ccuClose l m) := by
  unfold Block.ccuClose
  split
  · exact h.modCcu.minuteWork
  · exact h.modCcu
  · exact h.modCcu

theorem ccuHandOver {l : LineId} {m : HandOver} (h : Fed a b) : Fed a (b.ccuHandOver l m) := by
  unfold Block.ccuHandOver
  split
  · exact h.modCcu.minuteWork
  · exact h.modCcu
  · exact h.modCcu

theorem select {l : LineId} {x : Selection} (h : Fed a b) : Fed a (b.select l x) :=
  .ite h (.ite h.modEau.raiseLine.setCause (.ite h.modEau.raiseLine.setCause h.modEau.raiseLine))

theorem analyzerReply {l : LineId} {isA : Bool} {r : AnalyzerReply} (h : Fed a b) :
    Fed a (b.analyzerReply l isA r) := by
  have hsamples : Fed a (if ((b.line l).eau.active == selOf isA) && b.running then
      b.modEau l fun e => { e with samples := .zipWith addSample r e.samples } else b) := .ite h.modEau h
  exact .ite hsamples.modEau.select hsamples.modEau

theorem analyzerReturn {l : LineId} {isA : Bool} (h : Fed a b) : Fed a (b.analyzerReturn l isA) := h.modEau.select

theorem returnToA {l : LineId} (h : Fed a b) : Fed a (b.returnToA l) := .ite h.select h

theorem eauMinute {l : LineId} {m : MinuteId} {cut : Bool} (h : Fed a b) : Fed a (b.eauMinute l m cut) :=
  h.modEau.ccuHandOver.returnToA

theorem exceed {l : LineId} {x : Pollutant} {d : List Byte} (h : Fed a b) : Fed a (b.exceed l x d) :=
  h.raiseLine.modEau

theorem exceedHalfHour {l : LineId} {i : Nat} {q : PerPollutant HalfHourQuantity} (h : Fed a b) :
    Fed a (b.exceedHalfHour l i q) := foldl (fun _ _ h => .ite h.exceed h) _ h

theorem eauHalfHour {l : LineId} {y d i : Nat} {cut : Bool} (h : Fed a b) : Fed a (b.eauHalfHour l y d i cut) :=
  .ite h.modEau h.exceedHalfHour.modEau.enterRecord.modEau

theorem dayNotices {l : LineId} {q : PerPollutant DayQuantity} (x : Pollutant) (h : Fed a b) :
    Fed a (b.dayNotices l q x) := by
  have hdeficient : Fed a (if (q.get x).deficient then b.raiseLine .dayDeficient l (u8 x.index) else b) :=
    .ite h.raiseLine h
  exact .ite hdeficient.exceed hdeficient

theorem eauDay {l : LineId} {y d : Nat} {r cut : Bool} (h : Fed a b) : Fed a (b.eauDay l y d r cut) := by
  have hnotices {q : PerPollutant DayQuantity} : Fed a (allPollutants.foldl (Block.dayNotices l q) b) :=
    foldl (fun _ x h => h.dayNotices x) _ h
  exact modEau (.ite hnotices.enterRecord hnotices)

theorem eauClose {l : LineId} {c : Close} (h : Fed a b) : Fed a (b.eauClose l c) := by
  cases c with
  | minute m cut => exact h.eauMinute
  | halfHour y d i cut => exact h.eauHalfHour
  | day y d r cut => exact h.eauDay
  | yearChange old new => exact h

theorem limitNotices {l : LineId} {f : LimitFound} {m u : Nat} (h : Fed a b) : Fed a (b.limitNotices l f m u) :=
  h.of_lines (by simp)

theorem dauMinute {l : LineId} (h : Fed a b) : Fed a (b.dauMinute l) := by
  unfold Block.dauMinute
  split
  · exact h
  · exact h.modDau.limitNotices

theorem dauClose {l : LineId} {c : Close} (h : Fed a b) : Fed a (b.dauClose l c) := by
  cases c with
  | minute m cut => exact h.dauMinute
  | halfHour y d i cut => exact h
  | day y d r cut => exact .ite h.modDau h
  | yearChange old new => exact h.modDau

/-! ## Deliveries -/

theorem deliverTarget (l : LineId) (h : Fed a b) : Fed a (b.deliverTarget l) := by
  unfold Block.deliverTarget
  split
  · exact h.loadTarget
  · exact h

theorem moveSetpoints {x y : Nat} (h : Fed a b) : Fed a (b.moveSetpoints x y) := h.of_lines (by simp)

theorem cycleNotices {p q : Bool} (h : Fed a b) : Fed a (b.cycleNotices p q) := h.of_lines (by simp)

theorem balanceCycle (h : Fed a b) : Fed a b.balanceCycle := by
  have hfigures {x : Blu} : Fed a { b.applyQueue.convert with blu := x } := h.of_lines (by simp)
  exact ((foldl (fun _ l h => h.deliverTarget l) allLines hfigures).moveSetpoints).cycleNotices

theorem act (j : Job) (h : Fed a b) : Fed a (j.act b) := by
  unfold Job.act
  split
  · exact h.lscTick
  · exact h.gfuTick
  · exact h.of_lines (by simp)
  · exact h.gfuClose
  · exact h.ccuClose
  · exact h.eauClose
  · exact h.dauClose.deliverLimit
  · exact h.takeLimitNow _
  · exact h

theorem run {x : Pass} (j : Job) (h : Fed a x.block) : Fed a (j.run x).block := by
  unfold Job.run
  split
  · exact h
  · exact ((h.of_lines (t := x.block.withTaken x.taken) rfl).balanceCycle).of_lines rfl
  · exact h.act j

theorem deliverAll (js : List Job) (h : Fed a b) : Fed a (b.deliverAll js) := by
  have hjobs (x : Pass) (hx : Fed a x.block) : Fed a (x.takeJobs js).block := by
    induction js generalizing x with
    | nil => exact hx
    | cons j js ih => exact ih _ (hx.run j)
  exact hjobs ⟨b, b.taken⟩ h

theorem runJobs (js : List Job) (h : Fed a b) : Fed a (b.runJobs js) :=
  setClock (foldl (fun _ l h => h.takeLimitNow l) allLines (h.takeLimits.deliverAll _))

theorem takeLate (h : Fed a b) : Fed a b.takeLate := by
  rw [takeLate_eq_deliverAll]
  exact deliverAll _ h.setClock

theorem tickUnset (h : Fed a b) : Fed a b.tickUnset := runJobs _ h.setClock

theorem tickTo {x y : Time} (h : Fed a b) : Fed a (b.tickTo x y) := runJobs _ h.setClock

theorem tickEnd {x : Time} (h : Fed a b) : Fed a (b.tickEnd x) := setClock (runJobs _ h.setClock)

theorem countUptime (h : Fed a b) : Fed a b.countUptime := h.setClock

theorem secondTick (h : Fed a b) : Fed a b.secondTick := by
  unfold Block.secondTick
  dsimp only
  split
  · exact h.countUptime.tickUnset
  · split
    · exact h.countUptime.tickTo
    · exact h.countUptime.tickEnd

end Fed
end Block
end Sys2Proof.Machine
end

section
/-! Every step of the part moves a line's load and LHV estimate by those events alone, and so keeps each estimate in
its range (R52) and each load at 0 outside FIRING and at or below its ceiling (R35). -/

namespace Sys2Proof.Machine
open Sys2Proof
namespace Block
namespace Fed
variable {a b t : Block}

/-! ## Stations and roles -/

theorem bluSteam {l : LineId} {n : Nat} {o : OkFault} {returned : Bool} (h : Fed a b) :
    Fed a (b.bluSteam l n o returned) := h.of_lines (by simp)

theorem bluStale {l : LineId} (h : Fed a b) : Fed a (b.bluStale l) := h.of_lines (by simp)

theorem bluUnbound {l : LineId} (h : Fed a b) : Fed a (b.bluUnbound l) := h.of_lines (by simp)

theorem deliverReply {r : Role} {p : List Byte} {returned : Bool} (h : Fed a b) :
    Fed a (b.deliverReply r p returned) := by
  cases r with
  | feeder l => exact h.feederReport
  | furnace l => exact h.furnaceSample.steamSample.bluSteam
  | analyzerA l | analyzerB l => exact analyzerReply (.ite h.analyzerReturn h)
  | dosing l => exact h.dosingEvent
  | header => exact h.of_lines (t := b.headerReply _ _) (by simp)
  | turbine u => exact h.of_lines (t := b.turbineReply u _ _ _ _) (by simp)
  | bypass => exact h.of_lines (t := b.bypassReply _ _) (by simp)

theorem deliverLoss {r : Role} (h : Fed a b) : Fed a (b.deliverLoss r) := by
  cases r with
  | feeder l => exact h.feederLoss
  | furnace l => exact h.furnaceLoss.bluStale
  | analyzerA l | analyzerB l => exact h.modEau.select
  | dosing l => exact h.dosingEvent
  | header => exact h.of_lines (t := b.headerGone) (by simp)
  | turbine u => exact h.of_lines (t := b.turbineLoss u) (by simp)
  | bypass => exact h.of_lines (t := b.bypassGone) (by simp)

theorem deliverBinding {r : Role} {lost : Bool} (h : Fed a b) : Fed a (b.deliverBinding r lost) := by
  cases r with
  | analyzerA l | analyzerB l => exact h.modEau.select
  | dosing l => exact h.dosingEvent
  | turbine u => exact h.of_lines (t := b.turbineBound u _) (by simp)
  | feeder l | furnace l | header | bypass => exact h

theorem deliverUnbinding {r : Role} (h : Fed a b) : Fed a (b.deliverUnbinding r) := by
  cases r with
  | furnace l => exact h.furnaceCleared.bluUnbound
  | analyzerA l | analyzerB l => exact h.modEau.select
  | dosing l => exact h.dosingEvent
  | feeder l => exact h
  | header => exact h.of_lines (t := b.headerGone) (by simp)
  | turbine u => exact h.of_lines (t := b.turbineUnbound u) (by simp)
  | bypass => exact h.of_lines (t := b.bypassGone) (by simp)

theorem modBus {f : Bus → Bus} (h : Fed a b) : Fed a (b.modBus f) := h.of_lines rfl

theorem bindRole {e : Station} {r : Role} (h : Fed a b) : Fed a (b.bindRole e r) := h.modBus.deliverBinding

theorem unbindRole {e : Station} {r : Role} (h : Fed a b) : Fed a (b.unbindRole e r) := h.modBus.deliverUnbinding

theorem pollOutcome {n : Nat} {o : PollOutcome} {p : List Byte} (h : Fed a b) : Fed a (b.pollOutcome n o p) := by
  have hfailed (e : Station) : Fed a (b.pollFailed e o) := by
    refine .ite ?_ h.modBus
    split
    · exact h.modBus.raise.deliverLoss
    · exact h.modBus.raise
  have hgood (e : Station) : Fed a (b.pollGood e p) := by
    have hback {f : Bus → Bus} : Fed a
        (if e.lost then (b.modBus f).raise .stationBack e.number (u8 (roleCode e.role)) else b.modBus f) :=
      .ite h.modBus.raise h.modBus
    unfold Block.pollGood
    dsimp only
    split
    · exact hback.deliverReply
    · exact hback
  unfold Block.pollOutcome
  split
  · exact h
  · exact .ite (hgood _) (hfailed _)

theorem addStation {e : Station} (h : Fed a b) : Fed a (b.addStation e) := h.modBus

theorem applyStored {e : Station} (h : Fed a b) : Fed a (b.applyStored e) := by
  unfold Block.applyStored
  split
  · exact h
  · exact .ite h.bindRole h

theorem assignGood {c : Candidate} (h : Fed a b) : Fed a (b.assignGood c) :=
  .ite (.ite h.modBus (h.of_lines (by simp))) h.addStation.applyStored.modBus

theorem assignOutcome {o : PollOutcome} (h : Fed a b) : Fed a (b.assignOutcome o) := by
  unfold Block.assignOutcome
  split
  · exact h
  · exact .ite h.assignGood (h.of_lines (by simp))

theorem decideAnswer {x : Transaction} {o : PollOutcome} {p : List Byte} (h : Fed a b) :
    Fed a (b.decideAnswer x o p) := by
  have hbus : Fed a (match o with
      | .good | .miss => b.freeBus
      | .crossed | .bad => b.modBus fun x => { x with state := .settling }) := by
    cases o <;> exact h.modBus
  unfold Block.decideAnswer
  dsimp only
  cases x.command with
  | poll => exact .ite hbus.pollOutcome hbus
  | assign => exact hbus.assignOutcome
  | rollCall | clear | forget => exact hbus

theorem busChar {c : BusChar} (h : Fed a b) : Fed a (b.busChar c) := by
  have hanswer (x : Transaction) : Fed a (b.answerChar x c) := by
    unfold Block.answerChar
    dsimp only
    cases x.command with
    | clear | forget => exact h
    | rollCall => exact h.modBus
    | poll | assign =>
      dsimp only
      split
      · exact h.modBus
      · exact h.modBus.decideAnswer
  refine .ite h ?_
  split
  · exact h.modBus
  · exact hanswer _
  · exact hanswer _
  · exact h

theorem decideNow {o : PollOutcome} (h : Fed a b) : Fed a (b.decideNow o) := by
  unfold Block.decideNow
  split
  · exact h.decideAnswer
  · exact h

/-! ## Requests -/

theorem modLink {f : Link → Link} (h : Fed a b) : Fed a (b.modLink f) := h.of_lines rfl

theorem sendOwed (h : Fed a b) : Fed a b.sendOwed := h.of_lines (by simp)

/-- An answer that refuses, or else acts, is one whose action does no more. -/
theorem ite_fst {p : Prop} [Decidable p] {x y : Block × Reply} (hx : Fed a x.1) (hy : Fed a y.1) :
    Fed a (if p then x else y).1 := by
  split
  · exact hx
  · exact hy

theorem setTime {new : Time} {cs : List Close} (h : Fed a b) : Fed a (b.setTime new cs) :=
  setClock (h.takeLate.runJobs _)

theorem serveClockSet {y d s : Nat} (h : Fed a b) : Fed a (b.serveClockSet y d s).1 :=
  .ite_fst h (.ite_fst h h.setTime)

theorem writeParam {n : ParamName} {i : Item Params} {v : Nat} (h : Fed a b) : Fed a (b.writeParam n i v) := by
  have hstored : Fed a (b.modCmc fun c => { c with params := n.write i c.params v }) := h.of_lines rfl
  unfold Block.writeParam Block.afterWrite
  split
  · exact hstored.deviationCeilingWritten
  · exact hstored.of_lines (by simp)
  · exact hstored.of_lines (by simp)
  · exact .ite hstored.modBus hstored
  · exact hstored

theorem serveParamSet {group inst item value : Nat} (h : Fed a b) :
    Fed a (b.serveParamSet group inst item value).1 := by
  unfold Block.serveParamSet
  split
  · exact h
  · split
    · exact h
    · exact .ite_fst h (.ite_fst h h.writeParam)

theorem serveAllowanceRestore {l : LineId} {year used : Nat} {tallies : PerPollutant Nat} (h : Fed a b) :
    Fed a (b.serveAllowanceRestore l year used tallies).1 := by
  unfold Block.serveAllowanceRestore
  split
  · exact h
  · exact .ite h.takeLate.modDau.modEau.raiseLine h.takeLate.modDau.modEau

theorem serveLineStart {l : LineId} (h : Fed a b) : Fed a (b.serveLineStart l).1 := by
  unfold Block.serveLineStart
  cases (b.line l).lsc.state with
  | idle =>
    dsimp only
    split
    · exact h
    · exact h.enterWarmup
  | warmup | firing | hold | rundown => exact h

theorem serveLineFeed {l : LineId} (h : Fed a b) : Fed a (b.serveLineFeed l).1 := by
  unfold Block.serveLineFeed
  cases (b.line l).lsc.state with
  | idle | firing | hold => exact h
  | warmup =>
    dsimp only
    split
    · exact h
    · exact h.modLsc
  | rundown =>
    dsimp only
    split
    · exact h
    · exact h.enterWarmup

theorem serveLineStop {l : LineId} (h : Fed a b) : Fed a (b.serveLineStop l).1 := by
  unfold Block.serveLineStop
  cases (b.line l).lsc.state with
  | idle | rundown => exact h
  | warmup => exact h.enterIdle
  | firing | hold => exact h.enterRundown

theorem serveDeclareAction {l : LineId} {action : Nat} (h : Fed a b) : Fed a (b.serveDeclareAction l action).1 := by
  unfold Block.serveDeclareAction
  split
  · exact h.setCause
  · exact h.setCause
  · exact h

theorem serveStationBind {n : Nat} {r : Role} (h : Fed a b) : Fed a (b.serveStationBind n r).1 := by
  unfold Block.serveStationBind
  split
  · exact h
  · exact .ite_fst h (.ite_fst h (.ite_fst h (.ite_fst h h.bindRole)))

theorem serveStationUnbind {r : Role} (h : Fed a b) : Fed a (b.serveStationUnbind r).1 := by
  unfold Block.serveStationUnbind
  split
  · exact h
  · exact .ite_fst h (.ite_fst h h.modBus.unbindRole)

theorem forgetStation {e : Station} (h : Fed a b) : Fed a (b.forgetStation e) := by
  unfold Block.forgetStation
  dsimp only
  split
  · exact h.modBus.modBus.unbindRole.modBus
  · exact h.modBus.modBus

theorem serveStationForget {n : Nat} (h : Fed a b) : Fed a (b.serveStationForget n).1 := by
  unfold Block.serveStationForget
  split
  · exact h
  · exact .ite_fst h (.ite_fst h h.forgetStation)

theorem onLine {p : List Byte} {f : LineId → Block × Reply} (h : Fed a b) (hf : ∀ l, Fed a (f l).1) :
    Fed a (b.onLine p f).1 := by
  unfold Block.onLine
  split
  · exact hf _
  · exact h

theorem onTurbine {p : List Byte} {f : TurbineId → Block × Reply} (h : Fed a b) (hf : ∀ u, Fed a (f u).1) :
    Fed a (b.onTurbine p f).1 := by
  unfold Block.onTurbine
  split
  · exact hf _
  · exact h

theorem onStation {n : Nat} {f : Nat → Block × Reply} (h : Fed a b) (hf : ∀ n, Fed a (f n).1) :
    Fed a (b.onStation n f).1 := .ite_fst (hf n) h

theorem onRole {n : Nat} {f : Role → Block × Reply} (h : Fed a b) (hf : ∀ r, Fed a (f r).1) :
    Fed a (b.onRole n f).1 := by
  unfold Block.onRole
  split
  · exact hf _
  · exact h

theorem serveKind {k : ReqKind} {p : List Byte} (h : Fed a b) : Fed a (b.serveKind k p).1 := by
  have hlines {x : Block × Reply} (hx : x.1.lines = b.lines) : Fed a x.1 := h.of_lines hx
  cases k with
  | ident | clockRead | scheduleList | statusPlant => exact h
  | clockSet => exact h.serveClockSet
  | paramSet => exact h.serveParamSet
  | paramGet =>
    refine hlines ?_
    simp only [Block.serveKind, Block.serveParamGet]
    split
    · rfl
    · split <;> rfl
  | configSave => exact hlines (x := b.serveConfigSave) (by simp)
  | allowanceRestore => exact h.onLine fun l => h.serveAllowanceRestore
  | lineStart => exact h.onLine fun l => h.serveLineStart
  | lineFeed => exact h.onLine fun l => h.serveLineFeed
  | lineStop => exact h.onLine fun l => h.serveLineStop
  | lineCeiling => exact h.onLine fun l => h.setHostCeiling
  | lineDeclare => exact h.onLine fun l => h.serveDeclareAction
  | turbineStart => exact h.onTurbine fun u => hlines (by simp)
  | turbineStop => exact h.onTurbine fun u => hlines (by simp)
  | tripReset => exact h.onTurbine fun u => hlines (by simp)
  | scheduleAdd => exact hlines (x := b.serveScheduleAdd _ _ _) (by simp)
  | scheduleCancel => exact hlines (x := b.serveScheduleCancel _) (by simp)
  | stationEnrol => exact hlines (x := b.serveStationEnrol) (by simp)
  | stationList => exact h.onStation fun n => h
  | stationBind => exact h.onStation fun n => h.onRole fun r => h.serveStationBind
  | stationUnbind => exact h.onRole fun r => h.serveStationUnbind
  | stationForget => exact h.onStation fun n => h.serveStationForget
  | recordsFetch => exact hlines (x := b.serveRecordsFetch _ _) (by simp)
  | statusLine => exact h.onLine fun l => h
  | statusTurbine => exact h.onTurbine fun u => h
  | noticeList =>
    refine hlines ?_
    simp only [Block.serveKind, Block.serveListFrom]
    split <;> rfl
  | noticeClear => exact hlines (x := b.serveNoticeClear _ _) (by simp)
  | noticeFloor => exact hlines (x := b.serveNoticeFloor _) (by simp)
  | restart => exact h.modLink

theorem answer (r : Request) (h : Fed a b) : Fed a (b.answer r) := by
  have hserved : Fed a ((b.modLink fun k => { k with awaiting := true }).serve r).1 := by
    unfold Block.serve
    split
    · exact h.modLink
    · exact .ite_fst h.modLink.serveKind h.modLink
  exact hserved.modLink.modLink

/-! ## The host link -/

theorem takeAlong (rs : List Request) (h : Fed a b) : Fed a (Block.takeAlong rs b) := by
  induction rs generalizing b with
  | nil => exact h
  | cons r rs ih => exact .ite (ih (h.modLink.answer r)) h

theorem takeWaiting (h : Fed a b) : Fed a b.takeWaiting := h.takeAlong _

theorem takeArrived {rs : List Request} (h : Fed a b) : Fed a (b.takeArrived rs) := .ite h.takeWaiting h

theorem linkError {c : LinkErrorCause} {n : Nat} (h : Fed a b) : Fed a (b.linkError c n) := h.modLink.raise

theorem checkFrame (h : Fed a b) : Fed a b.checkFrame := by
  unfold Block.checkFrame
  split
  · exact h.modLink
  · exact h.modLink.linkError

theorem assemble {v : Byte} (h : Fed a b) : Fed a (b.assemble v) := by
  unfold Block.assemble
  cases b.link.assembler with
  | hunt => exact .ite h.modLink h.linkError
  | length => exact .ite h.modLink h.modLink.linkError
  | body => exact h.modLink
  | crc => exact .ite h.modLink.checkFrame h.modLink

theorem hostByte (v : Byte) (h : Fed a b) : Fed a (b.hostByte v) :=
  takeArrived (.ite h (.ite (.ite h.linkError h.modLink.linkError) h.assemble))

theorem submit {r : Request} (h : Fed a b) : Fed a (b.submit r) :=
  .ite h.modLink.takeArrived (foldl (fun _ v h => h.hostByte v) _ h)

theorem messageSent {requestFirst : Bool} (h : Fed a b) : Fed a (b.messageSent requestFirst) :=
  .ite h (.ite (.ite h.modLink.modLink h.modLink)
    (.ite h.modLink.takeWaiting.sendOwed h.modLink.sendOwed.takeWaiting))

theorem grantMoment {first : List LinkEvent} (h : Fed a b) : Fed a (b.grantMoment first) := by
  have hevent (b : Block) (e : LinkEvent) (h : Fed a b) : Fed a (b.linkEvent e) := by
    cases e with
    | byte v => exact h.hostByte v
    | messageSent requestFirst => exact h.messageSent
  have hfirst : Fed a (first.foldl Block.linkEvent b.grant) := foldl hevent _ (h.of_lines (by simp))
  exact .ite (hfirst.of_lines (by simp)) hfirst

/-! ## The configuration memory -/

theorem writeDone {bad : List (Nat × Byte)} (h : Fed a b) : Fed a (b.writeDone bad) := by
  unfold Block.writeDone
  split
  · exact h.of_lines rfl
  · exact h

theorem verifyDone (h : Fed a b) : Fed a b.verifyDone := by
  have hcmc {b : Block} {f : Cmc → Cmc} (h : Fed a b) : Fed a (b.modCmc f) := h.of_lines rfl
  unfold Block.verifyDone
  split
  · dsimp only
    split
    · exact (hcmc (hcmc h)).raise
    · exact (hcmc h).raise
  · exact h

/-! ## Resets and the ready point -/

theorem fullyReset {cause : ResetCause} {baud1 baud0 : Bool} {written : Nat} :
    Fed a (b.fullyReset cause baud1 baud0 written) := fun l => by
  have hline : (b.fullyReset cause baud1 baud0 written).line l = Line.reset := by cases l <;> rfl
  rw [hline]
  exact .single (.reset _)

theorem loadConfiguration {answers : Bool} (h : Fed a b) : Fed a (b.loadConfiguration answers) := by
  have hdefaulted : Fed a b.defaulted := h.of_lines rfl
  unfold Block.loadConfiguration Block.applyLoad
  split
  · exact h.of_lines rfl
  · exact hdefaulted.raise
  · exact hdefaulted.raise

theorem takeInputs {feedStopLow trip1Low trip2Low : Bool} (h : Fed a b) :
    Fed a (b.takeInputs feedStopLow trip1Low trip2Low) := by
  have htrip {low : Bool} {u : TurbineId} {b : Block} (h : Fed a b) :
      Fed a (if low then b.tripAsserted u else b.tripReleased u) := .ite (h.of_lines (by simp)) (h.of_lines rfl)
  exact htrip (htrip (.ite h.feedStopTaken (h.of_lines rfl)))

theorem readyPoint {answers feedStopLow trip1Low trip2Low : Bool} (h : Fed a b) :
    Fed a (b.readyPoint answers feedStopLow trip1Low trip2Low) := by
  have hqueued : Fed a (b.loadConfiguration answers).baudInForce.queueBroadcasts :=
    h.loadConfiguration.modBus.modBus.modBus
  have hwalk : Fed a (b.loadConfiguration answers).baudInForce.queueBroadcasts.startWalk := .ite hqueued.modBus hqueued
  exact hwalk.takeInputs.of_lines rfl

theorem idleStep (h : Fed a b) : Fed a b.idleStep :=
  .ite h.takeLate.takeLimits.modLink h.takeLate.takeLimits

end Fed
end Block

/-! ## Every step -/

/-- A command moves the lines' loads and LHV estimates by these events alone. -/
theorem exec_fed (i : Instr) (s : State) : ∃ b, exec i s = .next (s.withBlock b) ∧ s.block.Fed b := by
  have hs := Block.Fed.refl s.block
  cases i with
  | powerOn | rstnReset => exact ⟨_, rfl, .fullyReset⟩
  | restartReset => exact ⟨_, rfl, .ite .fullyReset hs⟩
  | readyPoint => exact ⟨_, rfl, .ite hs hs.readyPoint⟩
  | secondTick => exact ⟨_, rfl, .secondTick (hs.takeLate.of_lines rfl)⟩
  | firingEntry => exact ⟨_, rfl, hs.tryFire⟩
  | holdReturn => exact ⟨_, rfl, hs.tryHoldReturn⟩
  | holdLimit => exact ⟨_, rfl, hs.tryHoldLimit⟩
  | burnoutEnd => exact ⟨_, rfl, hs.tryBurnoutEnd⟩
  | strokeDue => exact ⟨_, rfl, hs.tryStrokeDue⟩
  | strokeTimeout => exact ⟨_, rfl, hs.tryStrokeTimeout⟩
  | runupQualified t => exact ⟨_, rfl, hs.of_lines (t := s.block.tryOnline t) (by simp)⟩
  | runupTimeout t => exact ⟨_, rfl, hs.of_lines (t := s.block.tryRunupTimeout t) (by simp)⟩
  | feedStopAssert => exact ⟨_, rfl, .ite hs hs.feedStopTaken⟩
  | feedStopRelease => exact ⟨_, rfl, hs.of_lines rfl⟩
  | tripAssert t => exact ⟨_, rfl, .ite hs (hs.of_lines (by simp))⟩
  | tripRelease => exact ⟨_, rfl, hs.of_lines rfl⟩
  | spdRisingEdge t cycles => exact ⟨_, rfl, hs.of_lines (t := s.block.risingEdge t cycles) (by simp)⟩
  | speedCountOverflow t => exact ⟨_, rfl, hs.of_lines (t := s.block.speedOverflow t) (by simp)⟩
  | busGrant => exact ⟨_, rfl, hs.grantMoment⟩
  | stationFrameSent | turnaroundEnd | unansweredFrameEnd | settleEnd => exact ⟨_, rfl, .ite hs.modBus hs⟩
  | stationCharReceived | strayCharacter => exact ⟨_, rfl, hs.busChar⟩
  | responseTimeout | answerGapTimeout => exact ⟨_, rfl, .ite hs.decideNow hs⟩
  | rollCallWindowEnd => exact ⟨_, rfl, hs.of_lines (t := s.block.endWindow) (by simp)⟩
  | hostByteReceived v => exact ⟨_, rfl, hs.hostByte v⟩
  | hostGapTimeout => exact ⟨_, rfl, .ite hs hs.modLink.linkError⟩
  | linkReset => exact ⟨_, rfl, .ite (.sendOwed (hs.of_lines rfl)) hs⟩
  | hrxdReturnedHigh => exact ⟨_, rfl, hs.modLink⟩
  | hrdyAsserted => exact ⟨_, rfl, .ite hs hs.modLink⟩
  | messageSent => exact ⟨_, rfl, hs.messageSent⟩
  | configWriteDone bad => exact ⟨_, rfl, hs.writeDone⟩
  | configVerifyDone => exact ⟨_, rfl, hs.verifyDone⟩
  | unknownKind | ident | clockSet | clockRead | paramSet | paramGet | configSave | allowanceRestore | lineStart
  | lineFeed | lineStop | lineCeiling | lineDeclare | turbineStart | turbineStop | tripReset | scheduleAdd
  | scheduleCancel | scheduleList | stationEnrol | stationList | stationBind | stationUnbind | stationForget
  | recordsFetch | statusLine | statusTurbine | statusPlant | noticeList | noticeClear | noticeFloor | restart =>
    exact ⟨_, rfl, hs.submit⟩

/-- A step moves the lines' loads and LHV estimates by these events alone. -/
theorem step_fed {s t : State} (h : step s = .next t) : s.block.Fed t.block := by
  unfold step at h
  split at h
  · cases h
    exact (Block.Fed.refl _).idleStep
  · next c rest _ =>
    obtain ⟨b, hexec, hfed⟩ := exec_fed c { s with pending := rest }
    cases hexec.symm.trans h
    exact hfed

/-! ## What the events keep -/

/-- R52: the LHV estimate lies in its range. -/
def LhvInRange (x : LineState × Gfu) : Prop := Config.lhvMin ≤ x.2.lhv ∧ x.2.lhv ≤ Config.lhvMax

/-- R35: the load is 0 outside FIRING and at or below the ceiling. -/
def LoadBounded (x : LineState × Gfu) : Prop := (x.1 ≠ .firing → x.2.load = 0) ∧ x.2.load ≤ x.2.ceiling

theorem Gfu.enter_lhv (g : Gfu) (minLoad : Nat) (st : LineState) : (g.enter minLoad st).lhv = g.lhv := by
  cases st <;> rfl

/-- A state entered starts at a load of 0, and FIRING at one within the ceiling (R35). -/
theorem Gfu.enter_load (g : Gfu) (minLoad : Nat) (st : LineState) : (g.enter minLoad st).ceiling = g.ceiling ∧
    (g.enter minLoad st).load = if st = .firing then min minLoad g.ceiling else 0 := by
  cases st <;> exact ⟨rfl, rfl⟩

/-- A ceiling taken lowers a FIRING load above it, and no other (R37). -/
theorem Gfu.takeCeiling_eq (g : Gfu) (firing : Bool) (c : Nat) : g.takeCeiling firing c =
    { g with ceiling := c
             load := if firing && decide (c < g.load) then c else g.load
             lastFiring := if firing && decide (c < g.load) then c else g.lastFiring } := by
  unfold Gfu.takeCeiling
  split <;> rfl

/-- A load moved toward its target stays within the ceiling (R36). -/
theorem rampedLoad_le {load ceiling : Nat} (h : load ≤ ceiling) (target step : Nat) :
    rampedLoad load target ceiling step ≤ ceiling := by
  unfold rampedLoad
  split
  · exact min_le_right _ _
  · split
    · exact min_le_right _ _
    · exact h

theorem clamp_mem {lo hi : Nat} (h : lo ≤ hi) (x : Nat) : lo ≤ clamp lo hi x ∧ clamp lo hi x ≤ hi := by
  unfold clamp
  split_ifs <;> omega

/-- A quarter of the way between two values of a range lies in it (R52). -/
theorem quarterStep_mem {lo hi old raw : Nat} (hold : lo ≤ old ∧ old ≤ hi) (hraw : lo ≤ raw ∧ raw ≤ hi) :
    lo ≤ quarterStep old raw ∧ quarterStep old raw ≤ hi := by
  unfold quarterStep
  split_ifs <;> omega

/-- The estimator leaves the load record, and moves the estimate, if at all, a quarter of the way to a value of its
range (R52). -/
theorem Gfu.estimate_cases (g : Gfu) (p : LineParams) :
    (g.estimate p).load = g.load ∧ (g.estimate p).ceiling = g.ceiling ∧ ((g.estimate p).lhv = g.lhv ∨
      ∃ found, (g.estimate p).lhv = quarterStep g.lhv (clamp Config.lhvMin Config.lhvMax found)) := by
  unfold Gfu.estimate
  dsimp only
  split
  · exact ⟨rfl, rfl, .inl rfl⟩
  · split
    · exact ⟨rfl, rfl, .inl rfl⟩
    · exact ⟨rfl, rfl, .inr ⟨_, rfl⟩⟩

theorem FeedMove.lhvInRange {x y : LineState × Gfu} (h : FeedMove x y) (hx : LhvInRange x) : LhvInRange y := by
  cases h with
  | enters s g minLoad st =>
    rw [LhvInRange, g.enter_lhv]
    exact hx
  | ceiling s g c =>
    rw [LhvInRange, g.takeCeiling_eq]
    exact hx
  | target g target step => exact hx
  | estimates s g p =>
    obtain ⟨-, -, hlhv | ⟨found, hlhv⟩⟩ := g.estimate_cases p <;> rw [LhvInRange, hlhv]
    · exact hx
    · exact quarterStep_mem hx (clamp_mem (by decide) found)
  | reset => exact (by decide : Config.lhvMin ≤ Gfu.reset.lhv ∧ Gfu.reset.lhv ≤ Config.lhvMax)
  | other s _ _ hlhv =>
    rw [LhvInRange, hlhv]
    exact hx

theorem FeedMove.loadBounded {x y : LineState × Gfu} (h : FeedMove x y) (hx : LoadBounded x) : LoadBounded y := by
  cases h with
  | enters s g minLoad st =>
    obtain ⟨hceiling, hload⟩ := g.enter_load minLoad st
    rw [LoadBounded, hceiling, hload]
    split
    · next hst => exact ⟨fun h => absurd hst h, min_le_right _ _⟩
    · exact ⟨fun _ => rfl, Nat.zero_le _⟩
  | ceiling s g c =>
    obtain ⟨hzero, -⟩ := hx
    rw [LoadBounded, g.takeCeiling_eq]
    by_cases hs : s = .firing
    · refine ⟨fun h => absurd hs h, ?_⟩
      simp only [hs, beq_self_eq_true, Bool.true_and, decide_eq_true_eq]
      split <;> omega
    · have hload : g.load = 0 := hzero hs
      simp [hs, hload]
  | target g target step => exact ⟨fun h => absurd rfl h, rampedLoad_le hx.2 _ _⟩
  | estimates s g p =>
    obtain ⟨hload, hceiling, -⟩ := g.estimate_cases p
    rw [LoadBounded, hload, hceiling]
    exact hx
  | reset => exact ⟨fun _ => rfl, Nat.zero_le _⟩
  | other s hload hceiling _ =>
    rw [LoadBounded, hload, hceiling]
    exact hx

theorem mem_allLines (l : LineId) : l ∈ allLines := by cases l <;> decide

namespace Block

theorem lhvOk_iff (b : Block) : b.lhvOk = true ↔ ∀ l, LhvInRange (b.line l).feed := by
  simp [lhvOk, mem_allLines, LhvInRange, Line.feed]

theorem loadOk_iff (b : Block) : b.loadOk = true ↔ ∀ l, LoadBounded (b.line l).feed := by
  simp [loadOk, mem_allLines, LoadBounded, Line.feed, or_iff_not_imp_left]

/-- What every event on a line's load and LHV estimate keeps, all of them together keep. -/
theorem Fed.keeps {a b : Block} {P : LineState × Gfu → Prop} (h : Fed a b)
    (hP : ∀ x y, FeedMove x y → P x → P y) (ha : ∀ l, P (a.line l).feed) (l : LineId) : P (b.line l).feed := by
  have hmoves := h l
  generalize (b.line l).feed = y at hmoves ⊢
  induction hmoves with
  | refl => exact ha l
  | tail _ hmove ih => exact hP _ _ hmove ih

end Block

/-- Settles O19: every step is made of events that keep the LHV estimate in its range and the load within its
bounds. -/
theorem lhvEstimateStaysInRange : Obligations.LhvEstimateStaysInRange := by
  unfold Obligations.LhvEstimateStaysInRange
  refine ⟨fun s t hs hstep => ?_, fun s t hs hstep => ?_⟩
  · exact t.block.lhvOk_iff.2 ((step_fed hstep).keeps (fun _ _ => FeedMove.lhvInRange) (s.block.lhvOk_iff.1 hs))
  · exact t.block.loadOk_iff.2 ((step_fed hstep).keeps (fun _ _ => FeedMove.loadBounded) (s.block.loadOk_iff.1 hs))

end Sys2Proof.Machine
end

section
/-! Strokes: STROKE_DUE and STROKE_TIMEOUT as commands, by the stroke record they find (R40, R42, R45, R46, R11). -/

namespace Sys2Proof.Machine
open Sys2Proof
namespace Block
variable {b : Block} {l : LineId}

/-! ## A stroke that falls due (R40, R42) -/

theorem tryStrokeDue_of_not_due (h : (b.line l).lsc.state ≠ .firing ∨ (b.line l).gfu.acc < 360000) :
    b.tryStrokeDue l = b :=
  if_neg fun ⟨hst, hacc⟩ => h.elim (fun h => h hst) fun h => absurd hacc (Nat.not_le.2 h)

theorem tryStrokeDue_of_due (hst : (b.line l).lsc.state = .firing) (hacc : 360000 ≤ (b.line l).gfu.acc) :
    b.tryStrokeDue l = (b.modGfu l fun g => { g with acc := g.acc - 360000 }).strokeIsDue l :=
  if_pos ⟨hst, hacc⟩

theorem strokeIsDue_starts (hst : (b.line l).lsc.state = .firing) (hphase : (b.line l).gfu.phase = .none)
    (hlevel : b.feedStop = false) : b.strokeIsDue l = b.modGfu l Gfu.startStroke := by
  simp [strokeIsDue, mayStart, hst, hphase, hlevel]

theorem strokeIsDue_inhibited (hphase : (b.line l).gfu.phase = .none) (hlevel : b.feedStop = true) :
    b.strokeIsDue l = b := by
  simp [strokeIsDue, mayStart, hphase, hlevel]

theorem strokeIsDue_owes (hphase : (b.line l).gfu.phase ≠ .none) (howed : (b.line l).gfu.owed = false) :
    b.strokeIsDue l = b.modGfu l fun g => { g with owed := true } := by
  simp [strokeIsDue, hphase, howed]

theorem strokeIsDue_drops (hphase : (b.line l).gfu.phase ≠ .none) (howed : (b.line l).gfu.owed = true) :
    b.strokeIsDue l =
      (b.modGfu l fun g => { g with dropped := min 65535 (g.dropped + 1) }).raiseLine .feedLag l [] := by
  simp [strokeIsDue, hphase, howed, satAdd, Config.max16]

/-- A due stroke starts (R42). -/
theorem tryStrokeDue_starts (hst : (b.line l).lsc.state = .firing) (hacc : 360000 ≤ (b.line l).gfu.acc)
    (hphase : (b.line l).gfu.phase = .none) (hlevel : b.feedStop = false) : b.tryStrokeDue l =
      b.modGfu l fun g => { g with acc := g.acc - 360000, phase := .extending, age := 0, latch := false } := by
  rw [tryStrokeDue_of_due hst hacc, strokeIsDue_starts (by simpa using hst) (by simpa using hphase)
    (by simpa using hlevel), modGfu_modGfu]
  rfl

/-- While FEED-STOP is asserted a due stroke does not start (R42). -/
theorem tryStrokeDue_inhibited (hst : (b.line l).lsc.state = .firing) (hacc : 360000 ≤ (b.line l).gfu.acc)
    (hphase : (b.line l).gfu.phase = .none) (hlevel : b.feedStop = true) :
    b.tryStrokeDue l = b.modGfu l fun g => { g with acc := g.acc - 360000 } := by
  rw [tryStrokeDue_of_due hst hacc, strokeIsDue_inhibited (by simpa using hphase) (by simpa using hlevel)]

/-- A stroke due while one is in flight is owed (R42). -/
theorem tryStrokeDue_owes (hst : (b.line l).lsc.state = .firing) (hacc : 360000 ≤ (b.line l).gfu.acc)
    (hphase : (b.line l).gfu.phase ≠ .none) (howed : (b.line l).gfu.owed = false) :
    b.tryStrokeDue l = b.modGfu l fun g => { g with acc := g.acc - 360000, owed := true } := by
  rw [tryStrokeDue_of_due hst hacc, strokeIsDue_owes (by simpa using hphase) (by simpa using howed), modGfu_modGfu]

/-- A stroke due while one is owed is dropped (R42). -/
theorem tryStrokeDue_drops (hst : (b.line l).lsc.state = .firing) (hacc : 360000 ≤ (b.line l).gfu.acc)
    (hphase : (b.line l).gfu.phase ≠ .none) (howed : (b.line l).gfu.owed = true) : b.tryStrokeDue l =
      (b.modGfu l fun g => { g with acc := g.acc - 360000, dropped := min 65535 (g.dropped + 1) }).raiseLine
        .feedLag l [] := by
  rw [tryStrokeDue_of_due hst hacc, strokeIsDue_drops (by simpa using hphase) (by simpa using howed), modGfu_modGfu]

/-! ## A stroke that times out (R45, R46, R11) -/

/-- A stroke ended by its timeout, with RAM_FAULT (R45). -/
def ramFaulted (b : Block) (l : LineId) : Block :=
  (b.modGfu l Gfu.timeOut).raiseLine .ramFault l [byte (if (b.line l).gfu.phase = .extending then 0 else 1)]

theorem ramFaulted_line (b : Block) (l : LineId) :
    (b.ramFaulted l).line l = { b.line l with gfu := (b.line l).gfu.timeOut } := by
  simp [ramFaulted]

theorem ramFaulted_pendingWith (b : Block) (l : LineId) : (b.ramFaulted l).pendingWith .ramFault (lineNumber l)
    [byte (if (b.line l).gfu.phase = .extending then 0 else 1)] := raise_pendingWith _ _ _ _

theorem ramFaulted_inService (b : Block) (l : LineId) : (b.ramFaulted l).inService l = b.inService l := by
  simp [inService, ramFaulted_line]

theorem tryStrokeTimeout_of_short
    (h : (b.line l).gfu.phase = .none ∨ (b.line l).gfu.age < (b.lineParams l).strokeTimeout) :
    b.tryStrokeTimeout l = b :=
  if_neg fun ⟨hphase, hage⟩ => h.elim hphase fun h => absurd hage (Nat.not_le.2 h)

/-- The third stroke timeout in a row is reported to the LSC (R46). -/
theorem tryStrokeTimeout_of_reached (hphase : (b.line l).gfu.phase ≠ .none)
    (hage : (b.lineParams l).strokeTimeout ≤ (b.line l).gfu.age) : b.tryStrokeTimeout l =
      if 2 ≤ (b.line l).gfu.faults then (b.ramFaulted l).feedFault l false else b.ramFaulted l := by
  have hthird : ((b.ramFaulted l).line l).gfu.faults = 3 ↔ 2 ≤ (b.line l).gfu.faults := by
    rw [ramFaulted_line]
    show min 3 ((b.line l).gfu.faults + 1) = 3 ↔ _
    omega
  refine (if_pos ⟨hphase, hage⟩).trans ?_
  exact if_congr hthird rfl rfl

theorem feedFault_of_inService (lost : Bool) (h : b.inService l = true) : b.feedFault l lost =
    (b.enterRundown l .feedFault).raiseLine .feedFault l [byte (if lost then 1 else 0)] := if_pos h

theorem feedFault_of_not_inService (lost : Bool) (h : b.inService l = false) : b.feedFault l lost = b :=
  if_neg (by simp [h])

/-- A rundown aborts the stroke: what has ended stays ended, and the mass and the faults counted stay (R11, R47). -/
theorem feedFault_gfu (b : Block) (l : LineId) (lost : Bool) : ((b.feedFault l lost).line l).gfu = (b.line l).gfu ∨
    ((b.feedFault l lost).line l).gfu = { (b.line l).gfu with load := 0, target := 0 }.abort := by
  cases hs : b.inService l with
  | true =>
    rw [feedFault_of_inService lost hs, raiseLine_line, (b.enterRundown_line l _).2]
    exact .inr rfl
  | false => exact .inl (by rw [feedFault_of_not_inService lost hs])

theorem feedFault_ramFault (b : Block) (l : LineId) (lost : Bool) (n : Nat) :
    (b.feedFault l lost).notice .ramFault n = b.notice .ramFault n := by
  cases hs : b.inService l with
  | true =>
    rw [feedFault_of_inService lost hs]
    exact (raiseLine_notice_of_ne _ (by decide) l _ n).trans (notice_congr (b.enterRundown_reportsKept l _).1 _ _)
  | false => rw [feedFault_of_not_inService lost hs]

end Block

/-! ## The commands -/

theorem exec_strokeDue (s : State) (l : LineId) :
    exec (.strokeDue l) s = .next (s.withBlock (s.block.tryStrokeDue l)) := rfl

theorem exec_strokeTimeout (s : State) (l : LineId) :
    exec (.strokeTimeout l) s = .next (s.withBlock (s.block.tryStrokeTimeout l)) := rfl

/-- STROKE_DUE drops a stroke with FEED_LAG where one is owed (R42). -/
theorem strokeDue_drops (s : State) (l : LineId) (hst : (s.block.line l).lsc.state = .firing)
    (hacc : 360000 ≤ (s.block.line l).gfu.acc) (hphase : (s.block.line l).gfu.phase ≠ .none)
    (howed : (s.block.line l).gfu.owed = true) :
    ∃ t, exec (.strokeDue l) s = .next t ∧
      (t.block.line l).gfu = { (s.block.line l).gfu with
        acc := (s.block.line l).gfu.acc - 360000, dropped := min 65535 ((s.block.line l).gfu.dropped + 1) } ∧
      t.block.pendingWith .feedLag (lineNumber l) [] ∧ s.block.onlyLine t.block l ∧ t.block.rcs = s.block.rcs := by
  rw [exec_strokeDue, Block.tryStrokeDue_drops hst hacc hphase howed]
  exact ⟨_, rfl, by simp, Block.raise_pendingWith _ _ _ _,
    Block.onlyLine_trans (Block.modGfu_onlyLine _ l _) (Block.raiseLine_onlyLine _ _ _ _ _), by simp⟩

/-- The stroke record and RAM_FAULT after a stroke timeout (R45, R47). -/
theorem Block.tryStrokeTimeout_record {b : Block} {l : LineId} (hphase : (b.line l).gfu.phase ≠ .none)
    (hage : (b.lineParams l).strokeTimeout ≤ (b.line l).gfu.age) :
    ((b.tryStrokeTimeout l).line l).gfu.phase = .none ∧ ((b.tryStrokeTimeout l).line l).gfu.owed = false ∧
    ((b.tryStrokeTimeout l).line l).gfu.command = .retract ∧
    ((b.tryStrokeTimeout l).line l).gfu.faults = min 3 ((b.line l).gfu.faults + 1) ∧
    ((b.tryStrokeTimeout l).line l).gfu.ramFaults = min 65535 ((b.line l).gfu.ramFaults + 1) ∧
    ((b.tryStrokeTimeout l).line l).gfu.fedMass = (b.line l).gfu.fedMass ∧
    (b.tryStrokeTimeout l).pendingWith .ramFault (lineNumber l)
      [byte (if (b.line l).gfu.phase = .extending then 0 else 1)] := by
  have htold := b.ramFaulted_pendingWith l
  rw [tryStrokeTimeout_of_reached hphase hage]
  split
  · rw [pendingWith, feedFault_ramFault, ← pendingWith]
    rcases (b.ramFaulted l).feedFault_gfu l false with h | h <;> rw [h, ramFaulted_line] <;>
      exact ⟨rfl, rfl, rfl, rfl, rfl, rfl, htold⟩
  · rw [ramFaulted_line]
    exact ⟨rfl, rfl, rfl, rfl, rfl, rfl, htold⟩

/-- STROKE_TIMEOUT of a stroke that has reached its timeout (R45, R46, R11). -/
theorem strokeTimeout_reached (s : State) (l : LineId) (hphase : (s.block.line l).gfu.phase ≠ .none)
    (hage : (s.block.lineParams l).strokeTimeout ≤ (s.block.line l).gfu.age) :
    (s.block.inService l = true → 2 ≤ (s.block.line l).gfu.faults →
      ((s.block.tryStrokeTimeout l).line l).lsc.state = .rundown ∧
      ((s.block.tryStrokeTimeout l).line l).lsc.cause = .feedFault ∧
      (s.block.tryStrokeTimeout l).pendingWith .feedFault (lineNumber l) [byte 0]) ∧
    ((s.block.line l).gfu.faults < 2 →
      ((s.block.tryStrokeTimeout l).line l).lsc = (s.block.line l).lsc) := by
  rw [Block.tryStrokeTimeout_of_reached hphase hage]
  refine ⟨fun hs hthird => ?_, fun hfew => ?_⟩
  · rw [if_pos hthird, Block.feedFault_of_inService false (by rw [Block.ramFaulted_inService, hs]),
      Block.raiseLine_line, (Block.enterRundown_line _ l _).1]
    exact ⟨rfl, rfl, Block.raise_pendingWith _ _ _ _⟩
  · rw [if_neg (Nat.not_le.2 hfew), Block.ramFaulted_line]

end Sys2Proof.Machine
end

section
/-! A line's GFU at a second tick: its own delivery among the others, in any order (R39, R40, R42, R45). -/

namespace Sys2Proof.Machine
open Sys2Proof

/-! ## What a step leaves of a line's faults of the ram, and of all that its GFU reads -/

/-- A step leaves a line's counts of ram faults and its RAM_FAULT. -/
structure RamKept (b t : Block) (l : LineId) : Prop where
  faults : (t.line l).gfu.faults = (b.line l).gfu.faults
  ramFaults : (t.line l).gfu.ramFaults = (b.line l).gfu.ramFaults
  told : t.notice .ramFault (lineNumber l) = b.notice .ramFault (lineNumber l)

/-- A step leaves all that a line's GFU reads at a second tick, and that no rundown of the line waits. -/
structure StrokeKept (b t : Block) (l : LineId) : Prop where
  gfu : (t.line l).gfu = (b.line l).gfu
  state : (t.line l).lsc.state = (b.line l).lsc.state
  due : (t.line l).lsc.limitDue = (b.line l).lsc.limitDue
  level : t.feedStop = b.feedStop
  cmc : t.cmc = b.cmc

namespace RamKept
variable {a b : Block} {l : LineId}

theorem refl (b : Block) (l : LineId) : RamKept b b l := ⟨rfl, rfl, rfl⟩

theorem trans {t : Block} (h : RamKept a b l) (g : RamKept b t l) : RamKept a t l :=
  ⟨g.faults.trans h.faults, g.ramFaults.trans h.ramFaults, g.told.trans h.told⟩

theorem of_kept {t : Block} (h : RamKept a b l) (hline : t.lines = b.lines) (hnotices : t.notices = b.notices) :
    RamKept a t l := by
  have hl : t.line l = b.line l := congrArg (·.get l) hline
  exact h.trans ⟨by rw [hl], by rw [hl], Block.notice_congr hnotices _ _⟩

theorem ite {p : Prop} [Decidable p] {t : Block} (hb : RamKept a b l) (ht : RamKept a t l) :
    RamKept a (if p then b else t) l := by
  split
  · exact hb
  · exact ht

theorem modLsc {m : LineId} {f : Lsc → Lsc} (h : RamKept a b l) : RamKept a (b.modLsc m f) l := by
  by_cases hm : l = m
  · subst hm
    exact h.trans ⟨by simp, by simp, rfl⟩
  · have hl := b.modLsc_line_of_ne f hm
    exact h.trans ⟨by rw [hl], by rw [hl], rfl⟩

theorem modGfu {m : LineId} {f : Gfu → Gfu} (h : RamKept a b l)
    (hf : m = l → ∀ g, (f g).faults = g.faults ∧ (f g).ramFaults = g.ramFaults) : RamKept a (b.modGfu m f) l := by
  by_cases hm : l = m
  · subst hm
    exact h.trans ⟨by simp [hf rfl], by simp [hf rfl], rfl⟩
  · have hl := b.modGfu_line_of_ne f hm
    exact h.trans ⟨by rw [hl], by rw [hl], rfl⟩

theorem raise {k : NoticeKind} {n : Nat} {d : List Byte} (h : RamKept a b l)
    (hk : ¬(NoticeKind.ramFault = k ∧ lineNumber l = n)) : RamKept a (b.raise k n d) l := by
  have hl : (b.raise k n d).line l = b.line l := by simp [Block.line]
  exact h.trans ⟨by rw [hl], by rw [hl], Block.raise_notice_of_ne b hk d⟩

/-- A notice of another kind leaves the RAM_FAULT. -/
theorem raise_other {k : NoticeKind} {n : Nat} {d : List Byte} (h : RamKept a b l)
    (hk : k ≠ .ramFault := by decide) : RamKept a (b.raise k n d) l := h.raise fun g => hk g.1.symm

/-- A change of line state, but for the entry to WARMUP, leaves the ram faults counted (R46). -/
theorem enter {m : LineId} {st : LineState} (h : RamKept a b l) (hst : st ≠ .warmup) : RamKept a (b.enter m st) l := by
  have htold := b.enter_notice (k := .ramFault) ⟨by decide, by decide, by decide⟩ m st (lineNumber l)
  by_cases hm : l = m
  · subst hm
    have hgfu := b.enter_gfu_of_ne (l := l) hst
    have hcounts (g : Gfu) (n : Nat) : (g.enter n st).faults = g.faults ∧ (g.enter n st).ramFaults = g.ramFaults := by
      cases st with
      | warmup => exact absurd rfl hst
      | idle | firing | hold | rundown => exact ⟨rfl, rfl⟩
    exact h.trans ⟨by rw [hgfu, (hcounts _ _).1], by rw [hgfu, (hcounts _ _).2], htold⟩
  · have hl := Block.onlyLine_line (b.enter_onlyLine m st) hm
    exact h.trans ⟨by rw [hl], by rw [hl], htold⟩

theorem enterRundown {m : LineId} {c : RundownCause} (h : RamKept a b l) : RamKept a (b.enterRundown m c) l :=
  h.modLsc.enter (by decide)

theorem takeLimit (m : LineId) (h : RamKept a b l) : RamKept a (b.takeLimit m) l := by
  unfold Block.takeLimit
  split
  · exact h
  · exact modLsc (.ite h.enterRundown h)

theorem takeLimitNow (m : LineId) (h : RamKept a b l) : RamKept a (b.takeLimitNow m) l := .ite h (h.takeLimit m)

theorem feedFault {m : LineId} {lost : Bool} (h : RamKept a b l) : RamKept a (b.feedFault m lost) l :=
  .ite h.enterRundown.raise_other h

/-! ## The second tick of an LSC, and of another line's GFU -/

theorem tryFire {m : LineId} (h : RamKept a b l) : RamKept a (b.tryFire m) l :=
  .ite (.ite (h.enter (by decide)) h.modLsc) h

theorem tryHoldReturn {m : LineId} (h : RamKept a b l) : RamKept a (b.tryHoldReturn m) l :=
  .ite (h.modLsc.enter (by decide)) h

theorem tryHoldLimit {m : LineId} (h : RamKept a b l) : RamKept a (b.tryHoldLimit m) l :=
  .ite h.enterRundown.raise_other h

theorem tryBurnoutEnd {m : LineId} (h : RamKept a b l) : RamKept a (b.tryBurnoutEnd m) l :=
  .ite (h.modLsc.enter (by decide)) h

theorem lscTick {m : LineId} (h : RamKept a b l) : RamKept a (b.lscTick m) l := by
  have hcount : RamKept a (b.modLsc m Block.lscCount) l := h.modLsc
  unfold Block.lscTick
  cases (b.line m).lsc.state with
  | warmup => exact hcount.tryFire
  | hold => exact hcount.tryHoldReturn.tryHoldLimit
  | rundown => exact hcount.tryBurnoutEnd
  | idle | firing => exact hcount

theorem pacerCount {m : LineId} (h : RamKept a b l) : RamKept a (b.pacerCount m) l :=
  .ite (h.modGfu fun _ _ => ⟨rfl, rfl⟩) (h.modGfu fun _ _ => ⟨rfl, rfl⟩)

theorem tryStrokeDue {m : LineId} (h : RamKept a b l) : RamKept a (b.tryStrokeDue m) l := by
  have hmod {b : Block} {f : Gfu → Gfu} (h : RamKept a b l)
      (hf : ∀ g, (f g).faults = g.faults ∧ (f g).ramFaults = g.ramFaults) : RamKept a (b.modGfu m f) l :=
    h.modGfu fun _ => hf
  refine .ite (.ite (.ite (hmod (hmod h ?_) ?_) (hmod h ?_)) (.ite (raise_other (hmod (hmod h ?_) ?_))
    (hmod (hmod h ?_) ?_))) h <;> exact fun _ => ⟨rfl, rfl⟩

theorem gfuTick_of_ne {m : LineId} (hm : m ≠ l) (h : RamKept a b l) : RamKept a (b.gfuTick m) l := by
  have hother {b : Block} {f : Gfu → Gfu} (h : RamKept a b l) : RamKept a (b.modGfu m f) l :=
    h.modGfu fun g => absurd g hm
  have htimeout : RamKept a ((b.modGfu m Block.strokeAge).tryStrokeTimeout m) l := by
    rcases (b.modGfu m Block.strokeAge).tryStrokeTimeout_cases m with g | ⟨d, g | g⟩ <;> rw [g]
    · exact hother h
    · exact (hother (hother h)).raise fun g => lineNumber_ne hm g.2.symm
    · exact ((hother (hother h)).raise fun g => lineNumber_ne hm g.2.symm).feedFault
  exact htimeout.pacerCount.tryStrokeDue

theorem turbineTick {u : TurbineId} (h : RamKept a b l) : RamKept a (b.turbineTick u) l := by
  have hmod {b : Block} {f : Turbine → Turbine} (h : RamKept a b l) : RamKept a (b.modTurbine u f) l :=
    h.of_kept rfl rfl
  have htimeout {b : Block} (h : RamKept a b l) : RamKept a (b.tryRunupTimeout u) l := .ite (hmod h).raise_other h
  have honline {b : Block} (h : RamKept a b l) : RamKept a (b.tryOnline u) l := .ite (hmod h) h
  exact .ite (.ite (htimeout (hmod (honline (hmod h)))) (honline (hmod h))) h

end RamKept

namespace StrokeKept
variable {a b : Block} {l : LineId}

theorem refl (b : Block) (l : LineId) : StrokeKept b b l := ⟨rfl, rfl, rfl, rfl, rfl⟩

theorem trans {t : Block} (h : StrokeKept a b l) (g : StrokeKept b t l) : StrokeKept a t l :=
  ⟨g.gfu.trans h.gfu, g.state.trans h.state, g.due.trans h.due, g.level.trans h.level, g.cmc.trans h.cmc⟩

theorem of_line {t : Block} (hline : t.line l = b.line l) (hlevel : t.feedStop = b.feedStop) (hcmc : t.cmc = b.cmc) :
    StrokeKept b t l :=
  ⟨congrArg Line.gfu hline, congrArg (·.lsc.state) hline, congrArg (·.lsc.limitDue) hline, hlevel, hcmc⟩

theorem of_onlyLine {t : Block} {m : LineId} (h : b.onlyLine t m) (hm : m ≠ l) : StrokeKept b t l := by
  have hline := Block.onlyLine_line h hm.symm
  obtain ⟨⟨-, -, hlevel, -, -⟩, -, -, hcmc, -, -⟩ := h
  exact of_line hline hlevel hcmc

end StrokeKept

/-- A line at rest for its LSC's second tick: one that counts its timers, and makes no transition (R7, R9, R14). -/
def Block.resting (b : Block) (l : LineId) : Prop := (b.line l).lsc.state = .idle ∨ (b.line l).lsc.state = .firing

theorem StrokeKept.resting {b t : Block} {l : LineId} (h : StrokeKept b t l) (hrest : b.resting l) : t.resting l := by
  unfold Block.resting
  rw [h.state]
  exact hrest

theorem Block.lscTick_of_resting {b : Block} {l : LineId} (h : b.resting l) :
    b.lscTick l = b.modLsc l Block.lscCount := by
  unfold Block.lscTick
  rcases h with h | h <;> rw [h]

/-! ## The deliveries to the others -/

/-- A delivery of a second tick to another owner than the line's GFU leaves its ram faults. -/
theorem tickJob_ramKept {j : Job} (hj : TickJob j) (hb : j ≠ ⟨.balance, none⟩) {l : LineId}
    (hg : j ≠ ⟨.gfu l, none⟩) (x : Pass) : RamKept x.block (j.run x).block l := by
  have hx := RamKept.refl x.block l
  cases hj with
  | lsc m => exact hx.lscTick
  | gfu m => exact hx.gfuTick_of_ne fun hm => hg (hm ▸ rfl)
  | turbine u => exact hx.turbineTick
  | blu m => exact hx
  | balance => exact absurd rfl hb

/-- A delivery of a second tick to another owner than the line's GFU leaves all that GFU reads, on a line at rest. -/
theorem tickJob_strokeKept {j : Job} (hj : TickJob j) (hb : j ≠ ⟨.balance, none⟩) {l : LineId}
    (hg : j ≠ ⟨.gfu l, none⟩) (x : Pass) (hrest : x.block.resting l) : StrokeKept x.block (j.run x).block l := by
  cases hj with
  | lsc m =>
    by_cases hm : m = l
    · subst hm
      show StrokeKept x.block (x.block.lscTick m) m
      rw [Block.lscTick_of_resting hrest]
      exact ⟨by simp, by simp [Block.lscCount], by simp [Block.lscCount], rfl, rfl⟩
    · exact .of_onlyLine (x.block.lscTick_onlyLine m) hm
  | gfu m => exact .of_onlyLine (x.block.gfuTick_onlyLine m) fun hm => hg (hm ▸ rfl)
  | turbine u =>
    obtain ⟨hkept, hline⟩ := x.block.turbineTick_kept u l
    exact .of_line hline hkept.level hkept.cmc
  | blu m => exact .refl _ l
  | balance => exact absurd rfl hb

/-- Deliveries of a second tick to others than the line's GFU. -/
theorem takeJobs_strokeKept {l : LineId} {js : List Job}
    (hjs : ∀ j ∈ js, TickJob j ∧ j ≠ ⟨.balance, none⟩ ∧ j ≠ ⟨.gfu l, none⟩) (x : Pass) :
    RamKept x.block (x.takeJobs js).block l ∧
    (x.block.resting l → StrokeKept x.block (x.takeJobs js).block l) := by
  induction js generalizing x with
  | nil => exact ⟨.refl _ l, fun _ => .refl _ l⟩
  | cons j js ih =>
    obtain ⟨⟨hj, hb, hg⟩, hjs⟩ := List.forall_mem_cons.1 hjs
    obtain ⟨hram, hstroke⟩ := ih hjs (j.run x)
    refine ⟨(tickJob_ramKept hj hb hg x).trans hram, fun hrest => ?_⟩
    have hkept := tickJob_strokeKept hj hb hg x hrest
    exact hkept.trans (hstroke (hkept.resting hrest))

end Sys2Proof.Machine
end

section
/-! STROKE_DUE, STROKE_TIMEOUT, and what a second tick with no balance tick and no close does to a line's strokes (R39,
R40, R42, R45, R46). -/

namespace Sys2Proof.Machine
open Sys2Proof

namespace Block

/-! ## The second tick of a GFU -/

/-- The age of the stroke in flight as a second tick counts it (R45). -/
def tickedAge (b : Block) (l : LineId) : Nat :=
  if (b.line l).gfu.phase = .none then (b.line l).gfu.age else min 600 ((b.line l).gfu.age + 1)

/-- The stroke rate a second tick forms in FIRING (R39). -/
def tickedRate (b : Block) (l : LineId) : Nat :=
  strokeRate (b.lineParams l) (b.line l).gfu.load (b.line l).gfu.lhv

/-- No stroke of the line times out at its second tick (R45). -/
def strokeShort (b : Block) (l : LineId) : Prop :=
  (b.line l).gfu.phase = .none ∨ b.tickedAge l < (b.lineParams l).strokeTimeout

variable {b : Block} {l : LineId}

/-- The line with its stroke's age counted (R45). -/
theorem modGfu_strokeAge_line (b : Block) (l : LineId) : (b.modGfu l strokeAge).line l =
    { b.line l with gfu := { (b.line l).gfu with age := b.tickedAge l } } := by
  rw [modGfu_line_self, strokeAge, tickedAge]
  split <;> rfl

theorem pacerCount_of_not_firing (h : (b.line l).lsc.state ≠ .firing) :
    b.pacerCount l = b.modGfu l fun g => { g with rate := 0 } := if_neg h

theorem pacerCount_of_firing (h : (b.line l).lsc.state = .firing) : b.pacerCount l = b.modGfu l fun g =>
    { g with rate := strokeRate (b.lineParams l) g.load g.lhv
             acc := g.acc + strokeRate (b.lineParams l) g.load g.lhv } := if_pos h

/-- Where no stroke times out the tick counts the age and the pacer, and then makes the test of R40. -/
theorem gfuTick_of_short (h : b.strokeShort l) :
    b.gfuTick l = ((b.modGfu l strokeAge).pacerCount l).tryStrokeDue l := by
  have hshort : (b.modGfu l strokeAge).tryStrokeTimeout l = b.modGfu l strokeAge :=
    tryStrokeTimeout_of_short (by rw [modGfu_strokeAge_line]; exact h)
  unfold gfuTick
  rw [hshort]

/-- The line as the pacer leaves it in FIRING (R39, R40, R45). -/
theorem paced_line (h : (b.line l).lsc.state = .firing) : ((b.modGfu l strokeAge).pacerCount l).line l =
    { b.line l with gfu := { (b.line l).gfu with
      age := b.tickedAge l, rate := b.tickedRate l, acc := (b.line l).gfu.acc + b.tickedRate l } } := by
  rw [pacerCount_of_firing (by rw [modGfu_strokeAge_line]; exact h), modGfu_line_self, modGfu_strokeAge_line]
  rfl

/-- A second tick at which no stroke times out leaves the line's LSC. -/
theorem gfuTick_lsc_of_short (h : b.strokeShort l) : ((b.gfuTick l).line l).lsc = (b.line l).lsc := by
  have hpacer (b : Block) : ((b.pacerCount l).line l).lsc = (b.line l).lsc := by
    unfold pacerCount
    split <;> simp
  have hdue (b : Block) : ((b.tryStrokeDue l).line l).lsc = (b.line l).lsc := by
    unfold tryStrokeDue strokeIsDue
    dsimp only
    (repeat' split) <;> simp
  rw [gfuTick_of_short h, hdue, hpacer, modGfu_strokeAge_line]

end Block

/-- What a second tick does to the strokes of a line at rest, from the part before (R39, R40, R42, R45). -/
structure StrokeTicked (b t : Block) (l : LineId) : Prop where
  idle : b.strokeShort l → (b.line l).lsc.state = .idle →
    (t.line l).gfu = { (b.line l).gfu with rate := 0, age := b.tickedAge l }
  counts : b.strokeShort l → (b.line l).lsc.state = .firing → (b.line l).gfu.acc + b.tickedRate l < 360000 →
    (t.line l).gfu = { (b.line l).gfu with
      rate := b.tickedRate l, acc := (b.line l).gfu.acc + b.tickedRate l, age := b.tickedAge l }
  starts : b.strokeShort l → (b.line l).lsc.state = .firing → 360000 ≤ (b.line l).gfu.acc + b.tickedRate l →
    (b.line l).gfu.phase = .none → b.feedStop = false →
    (t.line l).gfu = { (b.line l).gfu with
      rate := b.tickedRate l, acc := (b.line l).gfu.acc + b.tickedRate l - 360000
      phase := .extending, age := 0, latch := false }
  owes : b.strokeShort l → (b.line l).lsc.state = .firing → 360000 ≤ (b.line l).gfu.acc + b.tickedRate l →
    (b.line l).gfu.phase ≠ .none → (b.line l).gfu.owed = false →
    (t.line l).gfu = { (b.line l).gfu with
      rate := b.tickedRate l, acc := (b.line l).gfu.acc + b.tickedRate l - 360000
      age := b.tickedAge l, owed := true }
  timesOut : b.resting l → (b.line l).gfu.phase ≠ .none → (b.lineParams l).strokeTimeout ≤ b.tickedAge l →
    (t.line l).gfu.ramFaults = min 65535 ((b.line l).gfu.ramFaults + 1) ∧
    (t.line l).gfu.faults = min 3 ((b.line l).gfu.faults + 1) ∧
    t.pendingWith .ramFault (lineNumber l) [byte (if (b.line l).gfu.phase = .extending then 0 else 1)]

/-- The second tick at a line's own GFU (R39, R40, R42, R45). -/
theorem gfuTick_ticked (b : Block) (l : LineId) : StrokeTicked b (b.gfuTick l) l where
  idle hshort hst := by
    have hne : ((b.modGfu l Block.strokeAge).line l).lsc.state ≠ .firing := by
      rw [Block.modGfu_strokeAge_line]
      simp [hst]
    rw [Block.gfuTick_of_short hshort, Block.pacerCount_of_not_firing hne, Block.tryStrokeDue_of_not_due
      (.inl (by simpa using hne)), Block.modGfu_line_self, Block.modGfu_strokeAge_line]
  counts hshort hst hacc := by
    have hline := b.paced_line hst
    rw [Block.gfuTick_of_short hshort, Block.tryStrokeDue_of_not_due (.inr (by rw [hline]; exact hacc)), hline]
  starts hshort hst hacc hphase hlevel := by
    have hline := b.paced_line hst
    rw [Block.gfuTick_of_short hshort, Block.tryStrokeDue_starts (by rw [hline]; exact hst) (by rw [hline]; exact hacc)
      (by rw [hline]; exact hphase) (by simpa using hlevel), Block.modGfu_line_self, hline]
  owes hshort hst hacc hphase howed := by
    have hline := b.paced_line hst
    rw [Block.gfuTick_of_short hshort, Block.tryStrokeDue_owes (by rw [hline]; exact hst) (by rw [hline]; exact hacc)
      (by rw [hline]; exact hphase) (by rw [hline]; exact howed), Block.modGfu_line_self, hline]
  timesOut _ hphase hage := by
    have hline := b.modGfu_strokeAge_line l
    obtain ⟨-, -, -, hfaults, hram, -, htold⟩ := Block.tryStrokeTimeout_record (b := b.modGfu l Block.strokeAge)
      (l := l) (by rw [hline]; exact hphase) (by rw [hline]; exact hage)
    rw [hline] at hfaults hram htold
    have hkept : RamKept ((b.modGfu l Block.strokeAge).tryStrokeTimeout l) (b.gfuTick l) l :=
      (RamKept.refl _ l).pacerCount.tryStrokeDue
    rw [hkept.ramFaults, hkept.faults, Block.pendingWith, hkept.told]
    exact ⟨hram, hfaults, htold⟩

/-- The tick among steps before it that keep what the GFU reads and steps after it that keep what it leaves. -/
theorem StrokeTicked.among {b b1 t u : Block} {l : LineId} (hb : StrokeKept b b1 l) (h : StrokeTicked b1 t l)
    (hram : RamKept t u l) (hgfu : b1.strokeShort l → b1.resting l → (u.line l).gfu = (t.line l).gfu) :
    StrokeTicked b u l := by
  have hparams : b1.lineParams l = b.lineParams l := by simp only [Block.lineParams, hb.cmc]
  have hage : b1.tickedAge l = b.tickedAge l := by simp only [Block.tickedAge, hb.gfu]
  have hrate : b1.tickedRate l = b.tickedRate l := by simp only [Block.tickedRate, hb.gfu, hparams]
  have hshort : b1.strokeShort l ↔ b.strokeShort l := by simp only [Block.strokeShort, hb.gfu, hparams, hage]
  have hrest : b1.resting l ↔ b.resting l := by simp only [Block.resting, hb.state]
  obtain ⟨hidle, hcounts, hstarts, howes, htimesOut⟩ := h
  simp only [hb.gfu, hb.state, hb.level, hage, hrate, hparams, hshort, hrest] at hidle hcounts hstarts howes htimesOut
  rw [hshort, hrest] at hgfu
  exact
    { idle := fun hs hst => (hgfu hs (.inl hst)).trans (hidle hs hst)
      counts := fun hs hst hacc => (hgfu hs (.inr hst)).trans (hcounts hs hst hacc)
      starts := fun hs hst hacc hphase hlevel => (hgfu hs (.inr hst)).trans (hstarts hs hst hacc hphase hlevel)
      owes := fun hs hst hacc hphase howed => (hgfu hs (.inr hst)).trans (howes hs hst hacc hphase howed)
      timesOut := fun hs hphase hreached => by
        rw [hram.ramFaults, hram.faults, Block.pendingWith, hram.told]
        exact htimesOut hs hphase hreached }

/-! ## The whole tick -/

/-- Among the deliveries of a second tick the line's GFU takes its own once; where no stroke times out the line rests
after it as before, with no rundown to wait. -/
theorem deliverAll_stroke {l : LineId} {js : List Job} (hjs : ∀ j ∈ js, TickJob j ∧ j ≠ ⟨.balance, none⟩)
    (hnd : js.Nodup) (hg : ⟨.gfu l, none⟩ ∈ js) {b : Block} (hrest : b.resting l) :
    ∃ b1, StrokeKept b b1 l ∧ RamKept (b1.gfuTick l) (b.deliverAll js) l ∧
      (b1.strokeShort l → StrokeKept (b1.gfuTick l) (b.deliverAll js) l ∧
        ((b.deliverAll js).line l).lsc.limitDue = (b.line l).lsc.limitDue) := by
  obtain ⟨pre, post, rfl⟩ := List.append_of_mem hg
  obtain ⟨hpre, hpost⟩ := List.forall_mem_append.1 hjs
  obtain ⟨-, hpost⟩ := List.forall_mem_cons.1 hpost
  obtain ⟨-, hndpost, hdisj⟩ := List.nodup_append.1 hnd
  obtain ⟨hfresh, -⟩ := List.nodup_cons.1 hndpost
  have hother {ks : List Job} (hks : ∀ j ∈ ks, TickJob j ∧ j ≠ ⟨.balance, none⟩) (hn : ⟨.gfu l, none⟩ ∉ ks) :
      ∀ j ∈ ks, TickJob j ∧ j ≠ ⟨.balance, none⟩ ∧ j ≠ ⟨.gfu l, none⟩ := fun j hj =>
    ⟨(hks j hj).1, (hks j hj).2, fun hjg => hn (hjg ▸ hj)⟩
  have hbefore := (takeJobs_strokeKept (hother hpre fun h => hdisj _ h _ List.mem_cons_self rfl) ⟨b, b.taken⟩).2 hrest
  rw [Block.deliverAll_eq, Pass.takeJobs_append, Pass.takeJobs_cons]
  generalize Pass.takeJobs ⟨b, b.taken⟩ pre = x at hbefore ⊢
  obtain ⟨hram, hafter⟩ := takeJobs_strokeKept (hother hpost hfresh) (Job.run ⟨.gfu l, none⟩ x)
  refine ⟨x.block, hbefore, hram, fun hshort => ?_⟩
  have hlsc := Block.gfuTick_lsc_of_short hshort
  have hrest1 : (x.block.gfuTick l).resting l := by
    rw [Block.resting, hlsc]
    exact hbefore.resting hrest
  have hkept : StrokeKept (x.block.gfuTick l) _ l := hafter hrest1
  exact ⟨hkept, by rw [hkept.due, hlsc, hbefore.due]⟩

theorem tickJob_of_mem_tickJobs {j : Job} (h : j ∈ tickJobs) : TickJob j ∧ j ≠ ⟨.balance, none⟩ :=
  ⟨tickJob_of_mem (due := false) (List.mem_append_left _ h), fun hj => absurd (hj ▸ h) (by decide)⟩

/-- The deliveries of a second tick alone, in any order, give a line at rest its GFU's tick, where no rundown of it
waits. -/
theorem runJobs_strokeTicked {b : Block} {l : LineId} (hrest : b.resting l)
    (hdue : (b.line l).lsc.limitDue = none) : StrokeTicked b (b.runJobs tickJobs) l := by
  have hperm := arrange_perm b.order tickJobs
  obtain ⟨hkept, hline⟩ : LscKept b b.takeLimits l ∧ b.takeLimits.line l = b.line l :=
    foldTakeLimit_kept (fun _ _ => .inr rfl) allLines hdue
  have hbefore : StrokeKept b b.takeLimits l := .of_line hline hkept.level hkept.cmc
  obtain ⟨b1, hb1, hram, hshort⟩ := deliverAll_stroke (js := arrange b.order tickJobs)
    (fun j hj => tickJob_of_mem_tickJobs (hperm.mem_iff.1 hj)) (hperm.nodup_iff.2 (by decide))
    (hperm.mem_iff.2 (by cases l <;> decide)) (hbefore.resting hrest)
  obtain ⟨k, hrun⟩ := runJobs_of_tickJobs b fun j hj => (tickJob_of_mem_tickJobs (j := j) hj).1
  rw [hrun]
  refine (gfuTick_ticked b1 l).among (hbefore.trans hb1) (hram.trans ?_) fun hs _ => ?_
  · exact ((((RamKept.refl _ l).takeLimitNow .l1).takeLimitNow .l2).takeLimitNow .l3).of_kept rfl rfl
  · obtain ⟨hafter, hdue1⟩ := hshort hs
    obtain ⟨-, hend⟩ := foldTakeLimit_kept (f := Block.takeLimitNow) (l := l)
      (fun b m => by unfold Block.takeLimitNow; split <;> simp) allLines
      (b := b.takeLimits.deliverAll (arrange b.order tickJobs)) (by rw [hdue1, hbefore.due, hdue])
    exact (congrArg Line.gfu hend).trans hafter.gfu

/-- A second tick with no balance tick and no close has no deliveries but its own (R24 to R26). -/
theorem secondTick_of_no_balance {b : Block} (h : (b.clock.time = none ∧ b.clock.phase < 5) ∨
    ∃ x y : Time, b.clock.time = some x ∧ x.advance = some y ∧ y.second % 6 ≠ 0) :
    ∃ k : Clock, b.secondTick = { b with clock := k }.runJobs tickJobs := by
  rcases h with ⟨htime, hphase⟩ | ⟨x, y, hx, hy, hsix⟩
  · have hnone : Block.balanceJob (decide (5 ≤ b.clock.phase)) = [] := by simp [Block.balanceJob, hphase]
    rw [Block.secondTick_unset htime, hnone, List.append_nil]
    exact ⟨_, rfl⟩
  · have hnone : Block.balanceJob (y.second % 6 == 0) = [] := by simp [Block.balanceJob, hsix]
    have hcloses : Block.closesAt x y = [] := by
      have hminute : y.second % 60 ≠ 0 := by omega
      have hhalfHour : y.second % 1800 ≠ 0 := by omega
      have hday : y.second ≠ 0 := by omega
      simp [Block.closesAt, hminute, hhalfHour, hday]
    rw [Block.secondTick_running hx hy, hnone, hcloses, List.flatMap_nil, List.append_nil, List.append_nil]
    exact ⟨_, rfl⟩

/-- SECOND_TICK on the strokes of a line, where the tick brings no balance tick and no close and nothing put
off waits. -/
theorem exec_secondTick_strokeTicked (s : State) (order : List Owner) (l : LineId)
    (htime : (s.block.clock.time = none ∧ s.block.clock.phase < 5) ∨
      ∃ x y : Time, s.block.clock.time = some x ∧ x.advance = some y ∧ y.second % 6 ≠ 0)
    (hlate : s.block.clock.late = []) (hdue : (s.block.line l).lsc.limitDue = none) :
    ∃ t, exec (.secondTick order) s = .next t ∧ (s.block.resting l → StrokeTicked s.block t.block l) := by
  rw [exec_secondTick, s.block.takeLate_of_none hlate]
  refine ⟨_, rfl, fun hrest => ?_⟩
  obtain ⟨k, htick⟩ := secondTick_of_no_balance (b := { s.block with order := order }) htime
  rw [State.withBlock_block, htick]
  have hkept : StrokeKept s.block { s.block with order := order, clock := k } l := ⟨rfl, rfl, rfl, rfl, rfl⟩
  exact (runJobs_strokeTicked (b := { s.block with order := order, clock := k }) hrest hdue).among hkept
    (.refl _ l) fun _ _ => rfl

/-- Settles O18: each command makes its one test; a second tick counts the pacer and the age and makes the same tests,
whatever the order of its deliveries. -/
theorem strokesStartOrTimeOut : Obligations.StrokesStartOrTimeOut := by
  unfold Obligations.StrokesStartOrTimeOut
  refine ⟨fun s l => ?_, fun s l => ?_, fun s order l => ?_⟩
  · intro g f
    have hdue {b : Block} (hb : s.block.tryStrokeDue l = b) : exec (.strokeDue l) s = .next (s.withBlock b) := by
      rw [exec_strokeDue, hb]
    refine ⟨fun h => hdue (Block.tryStrokeDue_of_not_due h), fun hst hacc => ⟨fun hphase hlevel => ?_,
      fun hphase hlevel => ?_, fun hphase howed => ?_, strokeDue_drops s l hst hacc⟩⟩
    · exact hdue (Block.tryStrokeDue_starts hst hacc hphase hlevel)
    · exact hdue (Block.tryStrokeDue_inhibited hst hacc hphase hlevel)
    · exact hdue (Block.tryStrokeDue_owes hst hacc hphase howed)
  · intro g
    refine ⟨fun h => ?_, fun hphase hage => ?_⟩
    · rw [exec_strokeTimeout, Block.tryStrokeTimeout_of_short h]
      rfl
    · obtain ⟨hended, howed, hcommand, hfaults, hram, hmass, htold⟩ := Block.tryStrokeTimeout_record hphase hage
      obtain ⟨hthird, hfew⟩ := strokeTimeout_reached s l hphase hage
      exact ⟨_, exec_strokeTimeout s l, hended, howed, hcommand, hfaults, hram, hmass, htold, hthird, hfew,
        s.block.tryStrokeTimeout_onlyLine l⟩
  · intro x g p n age htime hlate hdue
    obtain ⟨t, ht, h⟩ := exec_secondTick_strokeTicked s order l htime hlate hdue
    exact ⟨t, ht, fun hs => ⟨fun hst => (h (.inl hst)).idle hs hst, fun hst => (h (.inr hst)).counts hs hst,
      fun hst => (h (.inr hst)).starts hs hst, fun hst => (h (.inr hst)).owes hs hst⟩,
      fun hrest => (h hrest).timesOut hrest⟩

end Sys2Proof.Machine
end

section
/-! A pollutant's minute (R65, R66): when it is VALID, and the value it then holds. -/

namespace Sys2Proof.Machine
open Sys2Proof

/-- R65: the seven conditions that keep a minute from being VALID, in their order. -/
theorem minuteStatus_valid_iff {counted cut wet : Bool} {o2 h2o raw : Option Nat} :
    minuteStatus counted cut wet o2 h2o raw = .valid ↔
      counted = true ∧ cut = false ∧ (∃ o, o2 = some o ∧ o ≤ 180) ∧ raw.isSome = true ∧
        (wet = true → ∃ h, h2o = some h ∧ h ≤ 400) := by
  cases counted with
  | false => simp [minuteStatus]
  | true =>
    cases cut with
    | true => simp [minuteStatus]
    | false =>
      cases o2 with
      | none => simp [minuteStatus]
      | some o =>
        by_cases ho : o ≤ 180
        · have hdilute : ¬Config.maxO2 < o := Nat.not_lt.2 ho
          have hmoist : Config.maxH2O = 400 := rfl
          cases wet with
          | false => cases raw <;> simp [minuteStatus, hdilute, ho]
          | true =>
            cases h2o with
            | none => simp [minuteStatus, hdilute]
            | some h =>
              by_cases hh : h ≤ 400
              · cases raw <;> simp [minuteStatus, hdilute, ho, hmoist, hh, hh.not_gt]
              · simp [minuteStatus, hdilute, hmoist, hh, not_le.1 hh]
        · have hdilute : Config.maxO2 < o := Nat.not_le.1 ho
          simp [minuteStatus, hdilute, ho]

section
variable {counted cut wet : Bool} {o2 h2o raw : Option Nat} {ref : Nat}

theorem polMinute_of_valid (ref : Nat) (h : minuteStatus counted cut wet o2 h2o raw = .valid) :
    polMinute counted cut wet o2 h2o raw ref =
      ⟨.valid, some (min 65535 (normalized wet (raw.getD 0) (h2o.getD 0) (o2.getD 0) ref)),
        decide (65535 < normalized wet (raw.getD 0) (h2o.getD 0) (o2.getD 0) ref)⟩ := by
  unfold polMinute
  rw [h]
  rfl

theorem polMinute_of_not_valid (ref : Nat) (h : minuteStatus counted cut wet o2 h2o raw ≠ .valid) :
    polMinute counted cut wet o2 h2o raw ref = ⟨minuteStatus counted cut wet o2 h2o raw, none, false⟩ :=
  if_neg h

@[simp] theorem polMinute_status : (polMinute counted cut wet o2 h2o raw ref).status =
    minuteStatus counted cut wet o2 h2o raw := by
  unfold polMinute
  dsimp only
  split <;> rfl

theorem polMinute_cn_isSome_iff : (polMinute counted cut wet o2 h2o raw ref).cn.isSome = true ↔
    minuteStatus counted cut wet o2 h2o raw = .valid := by
  by_cases h : minuteStatus counted cut wet o2 h2o raw = .valid
  · simp [polMinute_of_valid ref h, h]
  · simp [polMinute_of_not_valid ref h, h]

theorem polMinute_cn_le {c : Nat} (hc : (polMinute counted cut wet o2 h2o raw ref).cn = some c) : c ≤ 65535 := by
  have hvalid := polMinute_cn_isSome_iff.1 (Option.isSome_iff_exists.2 ⟨c, hc⟩)
  rw [polMinute_of_valid ref hvalid, Option.some.injEq] at hc
  omega

theorem polMinute_not_over (h : minuteStatus counted cut wet o2 h2o raw ≠ .valid) :
    (polMinute counted cut wet o2 h2o raw ref).overRange = false := by
  rw [polMinute_of_not_valid ref h]

/-- R66: a VALID minute holds the value `normalized` gives, bounded, with OVER where it is past the bound. -/
theorem polMinute_value {v : Nat} (h : minuteStatus counted cut wet o2 h2o raw = .valid)
    (hv : normalized wet (raw.getD 0) (h2o.getD 0) (o2.getD 0) ref = v) :
    (polMinute counted cut wet o2 h2o raw ref).cn = some (min 65535 v) ∧
      ((polMinute counted cut wet o2 h2o raw ref).overRange = true ↔ 65535 < v) := by
  rw [polMinute_of_valid ref h, hv]
  exact ⟨rfl, decide_eq_true_iff⟩

end

/-! ## The normalized value by basis and O2 (R66) -/

theorem normalized_wet {c h o ref : Nat} (hr : ref < o) :
    normalized true c h o ref = roundHalfUp (c * 1000 * (210 - ref)) ((1000 - h) * (210 - o)) := if_pos hr

theorem normalized_wet_uncorrected {c h o ref : Nat} (hr : o ≤ ref) :
    normalized true c h o ref = roundHalfUp (c * 1000) (1000 - h) := if_neg hr.not_gt

theorem normalized_dry {c h o ref : Nat} (hr : ref < o) :
    normalized false c h o ref = roundHalfUp (c * (210 - ref)) (210 - o) := if_pos hr

theorem normalized_dry_uncorrected {c h o ref : Nat} (hr : o ≤ ref) : normalized false c h o ref = c :=
  if_neg hr.not_gt

end Sys2Proof.Machine
end

section
/-! The minute work of a CCU: the record it leaves, what it tells, and the pairing of closes with hand-overs (R85 to
R87, R91 to R97). -/

namespace Sys2Proof.Machine
open Sys2Proof

/-! ## Searches and sums over the pollutants -/

theorem mem_allPollutants (x : Pollutant) : x ∈ allPollutants := by cases x <;> decide

theorem allPollutants_pairwise : allPollutants.Pairwise fun x y => x.index < y.index := by decide

/-- A search in index order finds the pollutant of the lowest index. -/
theorem find?_allPollutants {p : Pollutant → Bool} {x : Pollutant} (hx : p x = true)
    (hleast : ∀ y, p y = true → x.index ≤ y.index) : allPollutants.find? p = some x := by
  obtain ⟨y, hy⟩ := Option.isSome_iff_exists.1 (List.find?_isSome.2 ⟨x, mem_allPollutants x, hx⟩)
  obtain ⟨hpy, as, bs, hall, has⟩ := List.find?_eq_some_iff_append.1 hy
  have hmem := mem_allPollutants x
  have hpair := allPollutants_pairwise
  rw [hall] at hmem hpair
  have hxy := hleast y hpy
  rcases List.mem_append.1 hmem with h | h
  · exact absurd hx (by simpa using has x h)
  · rcases List.mem_cons.1 h with rfl | h
    · exact hy
    · have hlt := List.rel_of_pairwise_cons (List.pairwise_append.1 hpair).2.1 h
      omega

/-! ## The CCU's record, step by step -/

section
variable (p : LineParams) (index : Option Nat) (load : Nat) (means : PerPollutant RunningMean)
  (limits : PerPollutant Nat) (c : Ccu)

/-- The CCU's record with the acid index, the trim, the demand and the at-max count of a minute work (R86, R87,
R91). -/
def Ccu.dosed : Ccu := ((c.trimStep p index).demandStep p load).atMaxStep p

/-- The CCU's record after the steps of a minute work, before the effective ceiling is formed (R86 to R95). -/
def Ccu.worked : Ccu := ((c.dosed p index load).reagentStep p load).guardStep p means limits

theorem Ccu.dosed_eq : c.dosed p index load = { c with
    acidIndex := (c.dosed p index load).acidIndex
    trim := (c.dosed p index load).trim
    demand := (c.dosed p index load).demand
    atMax := (c.dosed p index load).atMax } := by
  cases index <;> rfl

/-- R92, R93: the reagent's step changes the reagent ceiling and its two counters alone. -/
theorem Ccu.reagentStep_eq : c.reagentStep p load = { c with
    reagent := (c.reagentStep p load).reagent
    lowerings := (c.reagentStep p load).lowerings
    releases := (c.reagentStep p load).releases } := by
  unfold Ccu.reagentStep
  dsimp only
  split
  · rfl
  · split <;> rfl

/-- R94, R95: the guard's step changes the guard ceiling and its stepping alone, and reads no other figure of the
record but the causes. -/
theorem Ccu.guardStep_eq {c d : Ccu} (hcauses : d.causes = c.causes) (hguard : d.guard = c.guard)
    (hstepping : d.guardStepping = c.guardStepping) : d.guardStep p means limits = { d with
      guard := (c.guardStep p means limits).guard
      guardStepping := (c.guardStep p means limits).guardStepping } := by
  unfold Ccu.guardStep
  rw [hcauses, hguard]
  split
  · rw [← hguard, ← hstepping, ← hcauses]
  · split <;> rfl

/-- The three parts of a minute work change different fields, the guard's with no regard to the others. -/
theorem Ccu.worked_eq : c.worked p index load means limits = { (c.dosed p index load).reagentStep p load with
    guard := (c.guardStep p means limits).guard
    guardStepping := (c.guardStep p means limits).guardStepping } := by
  have hkept : ((c.dosed p index load).reagentStep p load).causes = c.causes ∧
      ((c.dosed p index load).reagentStep p load).guard = c.guard ∧
      ((c.dosed p index load).reagentStep p load).guardStepping = c.guardStepping := by
    rw [Ccu.reagentStep_eq, Ccu.dosed_eq]
    exact ⟨rfl, rfl, rfl⟩
  obtain ⟨hcauses, hguard, hstepping⟩ := hkept
  exact Ccu.guardStep_eq p means limits hcauses hguard hstepping

/-! ## Dosing (R86, R87, R91) -/

theorem Ccu.dosed_taken (i : Nat) : (c.dosed p (some i) load).acidIndex = some i ∧
    (c.dosed p (some i) load).trim =
      if p.acidThreshold < i then min 4000 (p.gain * (i - p.acidThreshold) / 1000) else 0 := ⟨rfl, rfl⟩

theorem Ccu.dosed_held : (c.dosed p none load).acidIndex = c.acidIndex ∧ (c.dosed p none load).trim = c.trim :=
  ⟨rfl, rfl⟩

/-- The acid index of a hand-over by the part indexes present (R86). -/
theorem acidIndexOf_none {h : HandOver} {so2 hcl : Nat} (hs : partIndex h.so2 so2 = none)
    (hc : partIndex h.hcl hcl = none) : acidIndexOf h so2 hcl = none := by simp [acidIndexOf, hs, hc]

theorem acidIndexOf_so2 {h : HandOver} {so2 hcl i : Nat} (hs : partIndex h.so2 so2 = some i)
    (hc : partIndex h.hcl hcl = none) : acidIndexOf h so2 hcl = some i := by simp [acidIndexOf, hs, hc]

theorem acidIndexOf_hcl {h : HandOver} {so2 hcl i : Nat} (hs : partIndex h.so2 so2 = none)
    (hc : partIndex h.hcl hcl = some i) : acidIndexOf h so2 hcl = some i := by simp [acidIndexOf, hs, hc]

theorem acidIndexOf_both {h : HandOver} {so2 hcl i j : Nat} (hs : partIndex h.so2 so2 = some i)
    (hc : partIndex h.hcl hcl = some j) : acidIndexOf h so2 hcl = some (max i j) := by simp [acidIndexOf, hs, hc]

theorem clamp_eq {lo hi : Nat} (h : lo ≤ hi) (x : Nat) : clamp lo hi x = max lo (min x hi) := by
  unfold clamp
  split
  · omega
  · split <;> omega

theorem Ccu.dosed_demand :
    (c.dosed p index load).demand = min p.dMax (p.base * load / 1000 + (c.dosed p index load).trim) := by
  rw [min_comm, ← Nat.zero_max (min _ _)]
  exact clamp_eq (Nat.zero_le _) _

theorem Ccu.dosed_atMax : (c.dosed p index load).atMax =
    if (c.dosed p index load).demand = p.dMax then min 255 (c.atMax + 1) else 0 := by
  cases index <;> rfl

/-- A demand below 900 ‰ of D_max is not at D_max, so that the at-max count is then 0 (R91, R93). -/
theorem Ccu.dosed_atMax_of_low (h : (c.dosed p index load).demand < p.dMax * 900 / 1000) :
    (c.dosed p index load).atMax = 0 := by
  rw [Ccu.dosed_atMax, if_neg]
  omega

/-! ## The reagent ceiling (R92, R93) -/

theorem Ccu.reagentStep_lowers {c : Ccu} (h : 3 ≤ c.atMax) : c.reagentStep p load = { c with
    reagent := min c.reagent (max p.minLoad (min c.reagent load - p.reagentStep))
    lowerings := min 65535 (c.lowerings + 1) } := if_pos h

theorem Ccu.reagentStep_rises {c : Ccu} (hfew : c.atMax < 3) (hlow : c.demand < p.dMax * 900 / 1000) :
    c.reagentStep p load = { c with
      reagent := min 1100 (c.reagent + p.reagentStep)
      releases := if min 1100 (c.reagent + p.reagentStep) = c.reagent then c.releases
                  else min 65535 (c.releases + 1) } :=
  (if_neg hfew.not_ge).trans (if_pos hlow)

theorem Ccu.reagentStep_holds {c : Ccu} (hfew : c.atMax < 3) (hhigh : p.dMax * 900 / 1000 ≤ c.demand) :
    c.reagentStep p load = c :=
  (if_neg hfew.not_ge).trans (if_neg hhigh.not_gt)

/-! ## The guard ceiling (R94, R95) -/

/-- A running mean that lets the guard fall: qualified, and above 900 ‰ of its limit (R94). -/
def RunningMean.above (m : RunningMean) (limit : Nat) : Bool :=
  m.qualified.any fun v => decide (limit * 900 / 1000 < v)

theorem RunningMean.above_iff (m : RunningMean) (limit : Nat) :
    m.above limit = true ↔ ∃ v, m.qualified = some v ∧ limit * 900 / 1000 < v := by
  simp [above, Option.any_eq_true]

variable {means limits}

theorem guardAbove_eq : guardAbove means limits = allPollutants.find? fun x => (means.get x).above (limits.get x) := by
  unfold guardAbove RunningMean.above
  congr 1
  funext x
  cases (means.get x).qualified <;> rfl

theorem guardAbove_eq_none_iff :
    guardAbove means limits = none ↔ ∀ x, ¬(means.get x).above (limits.get x) = true := by
  rw [guardAbove_eq, List.find?_eq_none]
  exact ⟨fun h x => h x (mem_allPollutants x), fun h x _ => h x⟩

/-- The lowest-indexed pollutant above its threshold is the one found. -/
theorem guardAbove_eq_some {x : Pollutant} (hx : (means.get x).above (limits.get x) = true)
    (hleast : ∀ y, (means.get y).above (limits.get y) = true → x.index ≤ y.index) : guardAbove means limits = some x :=
  guardAbove_eq.trans (find?_allPollutants hx hleast)

theorem guardClear_iff : guardClear means limits = true ↔ (∃ x, (means.get x).qualified.isSome = true) ∧
    ∀ x m, (means.get x).qualified = some m → m < limits.get x * 800 / 1000 := by
  rw [guardClear, Bool.and_eq_true, List.any_eq_true, List.all_eq_true]
  refine and_congr ⟨fun ⟨x, _, hx⟩ => ⟨x, hx⟩, fun ⟨x, hx⟩ => ⟨x, mem_allPollutants x, hx⟩⟩
    ⟨fun h x m hm => ?_, fun h x _ => ?_⟩
  · simpa [hm] using h x (mem_allPollutants x)
  · split
    · next m hm => exact decide_eq_true (h x m hm)
    · rfl

theorem Ccu.guardStep_of_analyzer {c : Ccu} (h : c.causes.analyzer = true) : c.guardStep p means limits = c :=
  if_pos h

theorem Ccu.guardStep_lowers {c : Ccu} (h : c.causes.analyzer = false)
    (habove : ∃ x, (means.get x).above (limits.get x) = true) : c.guardStep p means limits = { c with
      guard := min c.guard (max p.guardFloor (c.guard - p.guardStep))
      guardStepping := true } := by
  obtain ⟨x, hx⟩ := habove
  cases hfound : guardAbove means limits with
  | none => exact absurd hx (guardAbove_eq_none_iff.1 hfound x)
  | some y => simp [Ccu.guardStep, h, hfound]

theorem Ccu.guardStep_of_none_above {c : Ccu} (h : c.causes.analyzer = false)
    (habove : ∀ x, ¬(means.get x).above (limits.get x) = true) : c.guardStep p means limits = { c with
      guardStepping := false
      guard := if guardClear means limits then min 1100 (c.guard + p.guardStep) else c.guard } := by
  simp [Ccu.guardStep, h, guardAbove_eq_none_iff.2 habove, Config.maxLoad]

end

namespace Block
variable (b : Block)

/-! ## The minute work in the part (R85, R97) -/

/-- The CCU's record of a line with the acid index, the trim, the demand and the at-max count of a minute work (R86,
R87, R91). -/
def dosing (l : LineId) (h : HandOver) : Ccu :=
  (b.line l).ccu.dosed (b.lineParams l) (acidIndexOf h b.hhLimits.so2 b.hhLimits.hcl) (b.line l).gfu.lastFiring

/-- The CCU's record of a line after the dosing and reagent steps of a minute work (R86 to R93). -/
def dosedCcu (l : LineId) (h : HandOver) : Ccu :=
  (b.dosing l h).reagentStep (b.lineParams l) (b.line l).gfu.lastFiring

/-- The guard's step on the CCU's record of a line as the minute work finds it (R94, R95). -/
def guardedCcu (l : LineId) (h : HandOver) : Ccu :=
  (b.line l).ccu.guardStep (b.lineParams l) h.means b.hhLimits

/-- The CCU's record of a line after the steps of a minute work, before the effective ceiling is formed. -/
def workedCcu (l : LineId) (h : HandOver) : Ccu :=
  (b.line l).ccu.worked (b.lineParams l) (acidIndexOf h b.hhLimits.so2 b.hhLimits.hcl) (b.line l).gfu.lastFiring
    h.means b.hhLimits

theorem workedCcu_eq (l : LineId) (h : HandOver) : b.workedCcu l h = { b.dosedCcu l h with
    guard := (b.guardedCcu l h).guard
    guardStepping := (b.guardedCcu l h).guardStepping } := Ccu.worked_eq ..

theorem recompute_pendingWith {l : LineId} {k : NoticeKind} {n : Nat} {d : List Byte} :
    (b.recompute l).pendingWith k n d ↔ b.pendingWith k n d := pendingWith_congr (by simp)

theorem modCcu_pendingWith {l : LineId} {f : Ccu → Ccu} {k : NoticeKind} {n : Nat} {d : List Byte} :
    (b.modCcu l f).pendingWith k n d ↔ b.pendingWith k n d := pendingWith_congr (by simp)

@[simp] theorem raiseReagentLimit_line (l m : LineId) : (b.raiseReagentLimit l).line m = b.line m := by simp [line]

@[simp] theorem raiseGuardActive_line (l : LineId) (s : Bool) (x : Option Pollutant) (m : LineId) :
    (b.raiseGuardActive l s x).line m = b.line m := by simp [line]

/-- GUARD_ACTIVE is the one notice the guard raises (R94). -/
theorem raiseGuardActive_pendingWith_of_ne {l : LineId} {s : Bool} {x : Option Pollutant} {k : NoticeKind} {n : Nat}
    {d : List Byte} (hk : k ≠ .guardActive) (h : b.pendingWith k n d) :
    (b.raiseGuardActive l s x).pendingWith k n d := by
  have htold (d' : List Byte) : (b.raiseLine .guardActive l d').pendingWith k n d := by
    rwa [pendingWith, raiseLine, raise_notice_of_ne b fun g => hk g.1]
  unfold raiseGuardActive
  split
  · split
    · exact htold _
    · exact h
  · exact h

/-- R85: the minute work runs in FIRING and HOLD alone. -/
theorem minuteWork_of_not_inService {l : LineId} (h : HandOver) (hs : b.inService l = false) :
    b.minuteWork l h = b := if_neg (by simp [hs])

/-- The steps of the minute work on the record, with REAGENT_LIMIT raised between them, before the guard's notice and
the effective ceiling (R86 to R95). -/
def workSteps (l : LineId) (h : HandOver) : Block :=
  ((b.modCcu l fun _ => b.dosedCcu l h).raiseReagentLimit l).modCcu l
    fun c => c.guardStep (b.lineParams l) h.means b.hhLimits

theorem minuteWork_eq {l : LineId} (h : HandOver) (hs : b.inService l = true) : b.minuteWork l h =
    ((b.workSteps l h).raiseGuardActive l (b.line l).ccu.guardStepping
      (if (b.line l).ccu.causes.analyzer then none else guardAbove h.means b.hhLimits)).recompute l := if_pos hs

@[simp] theorem workSteps_line (l : LineId) (h : HandOver) :
    (b.workSteps l h).line l = { b.line l with ccu := b.workedCcu l h } := by
  simp [workSteps, workedCcu, dosedCcu, dosing, Ccu.worked]

/-- The CCU's record after the minute work, with the effective ceiling its least term (R97). -/
theorem minuteWork_ccu {l : LineId} (h : HandOver) (hs : b.inService l = true) :
    ((b.minuteWork l h).line l).ccu = { b.workedCcu l h with effective := (b.workedCcu l h).leastTerm } := by
  rw [minuteWork_eq b h hs, recompute_line]
  simp

/-- Where the fields of the CCU's record after a minute work come from: each of its three parts, and the least term of
them all. -/
theorem minuteWork_fields {l : LineId} (h : HandOver) (hs : b.inService l = true) :
    let d := ((b.minuteWork l h).line l).ccu
    (d.acidIndex = (b.dosing l h).acidIndex ∧ d.trim = (b.dosing l h).trim ∧ d.demand = (b.dosing l h).demand ∧
      d.atMax = (b.dosing l h).atMax) ∧
    (d.reagent = (b.dosedCcu l h).reagent ∧ d.lowerings = (b.dosedCcu l h).lowerings ∧
      d.releases = (b.dosedCcu l h).releases) ∧
    (d.guard = (b.guardedCcu l h).guard ∧ d.guardStepping = (b.guardedCcu l h).guardStepping) ∧
    d.effective = d.leastTerm := by
  rw [minuteWork_ccu b h hs, workedCcu_eq, dosedCcu, Ccu.reagentStep_eq]
  exact ⟨⟨rfl, rfl, rfl, rfl⟩, ⟨rfl, rfl, rfl⟩, ⟨rfl, rfl⟩, rfl⟩

/-- The dosing steps leave the figures of the reagent ceiling. -/
theorem dosing_reagent (l : LineId) (h : HandOver) : (b.dosing l h).reagent = (b.line l).ccu.reagent ∧
    (b.dosing l h).lowerings = (b.line l).ccu.lowerings ∧ (b.dosing l h).releases = (b.line l).ccu.releases := by
  rw [dosing, Ccu.dosed_eq]
  exact ⟨rfl, rfl, rfl⟩

theorem hhLimits_get (x : Pollutant) : b.hhLimits.get x = (b.cmc.params.quantity.get x).hhLimit :=
  PerPollutant.get_tabulate ..

/-- The minute work leaves the line's EAU (R85). -/
@[simp] theorem minuteWork_eau (l : LineId) (h : HandOver) : ((b.minuteWork l h).line l).eau = (b.line l).eau := by
  cases hs : b.inService l with
  | false => rw [minuteWork_of_not_inService b h hs]
  | true =>
    rw [minuteWork_eq b h hs, recompute_line]
    simp

/-- The CCU's record of a line that a minute work leaves. -/
abbrev leftCcu (l : LineId) (h : HandOver) : Ccu := ((b.minuteWork l h).line l).ccu

section
variable {b} {l : LineId} {h : HandOver} (hs : b.inService l = true)
include hs

theorem leftCcu_effective : (b.leftCcu l h).effective = (b.leftCcu l h).leastTerm := by
  obtain ⟨-, -, -, heffective⟩ := b.minuteWork_fields h hs
  exact heffective

theorem leftCcu_acid_held (hi : acidIndexOf h b.hhLimits.so2 b.hhLimits.hcl = none) :
    (b.leftCcu l h).acidIndex = (b.line l).ccu.acidIndex ∧ (b.leftCcu l h).trim = (b.line l).ccu.trim := by
  obtain ⟨⟨hindex, htrim, -, -⟩, -⟩ := b.minuteWork_fields h hs
  rw [hindex, htrim, dosing, hi]
  exact Ccu.dosed_held ..

theorem leftCcu_acid_taken {i : Nat} (hi : acidIndexOf h b.hhLimits.so2 b.hhLimits.hcl = some i) :
    (b.leftCcu l h).acidIndex = some i ∧ (b.leftCcu l h).trim = if (b.lineParams l).acidThreshold < i then
      min 4000 ((b.lineParams l).gain * (i - (b.lineParams l).acidThreshold) / 1000) else 0 := by
  obtain ⟨⟨hindex, htrim, -, -⟩, -⟩ := b.minuteWork_fields h hs
  rw [hindex, htrim, dosing, hi]
  exact Ccu.dosed_taken ..

theorem leftCcu_demand : (b.leftCcu l h).demand = min (b.lineParams l).dMax
    ((b.lineParams l).base * (b.line l).gfu.lastFiring / 1000 + (b.leftCcu l h).trim) := by
  obtain ⟨⟨-, htrim, hdemand, -⟩, -⟩ := b.minuteWork_fields h hs
  rw [hdemand, htrim]
  exact Ccu.dosed_demand ..

theorem leftCcu_atMax : (b.leftCcu l h).atMax =
    if (b.leftCcu l h).demand = (b.lineParams l).dMax then min 255 ((b.line l).ccu.atMax + 1) else 0 := by
  obtain ⟨⟨-, -, hdemand, hatMax⟩, -⟩ := b.minuteWork_fields h hs
  rw [hatMax, hdemand]
  exact Ccu.dosed_atMax ..

theorem leftCcu_reagent_lowers (hmany : 3 ≤ (b.leftCcu l h).atMax) :
    (b.leftCcu l h).reagent = min (b.line l).ccu.reagent (max (b.lineParams l).minLoad
      (min (b.line l).ccu.reagent (b.line l).gfu.lastFiring - (b.lineParams l).reagentStep)) ∧
    (b.leftCcu l h).lowerings = min 65535 ((b.line l).ccu.lowerings + 1) ∧
    (b.leftCcu l h).releases = (b.line l).ccu.releases := by
  obtain ⟨⟨-, -, -, hatMax⟩, ⟨hreagent, hlowerings, hreleases⟩, -⟩ := b.minuteWork_fields h hs
  obtain ⟨hreagent', hlowerings', hreleases'⟩ := b.dosing_reagent l h
  rw [hreagent, hlowerings, hreleases, dosedCcu, Ccu.reagentStep_lowers _ _ (hatMax ▸ hmany), hreagent',
    hlowerings', hreleases']
  exact ⟨rfl, rfl, rfl⟩

theorem leftCcu_reagent_rises (hlow : (b.leftCcu l h).demand < (b.lineParams l).dMax * 900 / 1000) :
    (b.leftCcu l h).reagent = min 1100 ((b.line l).ccu.reagent + (b.lineParams l).reagentStep) ∧
    (b.leftCcu l h).lowerings = (b.line l).ccu.lowerings ∧
    (b.leftCcu l h).releases = if (b.leftCcu l h).reagent = (b.line l).ccu.reagent then (b.line l).ccu.releases
      else min 65535 ((b.line l).ccu.releases + 1) := by
  obtain ⟨⟨-, -, hdemand, -⟩, ⟨hreagent, hlowerings, hreleases⟩, -⟩ := b.minuteWork_fields h hs
  obtain ⟨hreagent', hlowerings', hreleases'⟩ := b.dosing_reagent l h
  rw [hdemand] at hlow
  have hfew : (b.dosing l h).atMax < 3 := by
    rw [dosing, Ccu.dosed_atMax_of_low _ _ _ _ hlow]
    decide
  rw [hreagent, hlowerings, hreleases, dosedCcu, Ccu.reagentStep_rises _ _ hfew hlow, hreagent', hlowerings',
    hreleases']
  exact ⟨rfl, rfl, rfl⟩

theorem leftCcu_reagent_holds (hfew : (b.leftCcu l h).atMax < 3)
    (hhigh : (b.lineParams l).dMax * 900 / 1000 ≤ (b.leftCcu l h).demand) :
    (b.leftCcu l h).reagent = (b.line l).ccu.reagent ∧ (b.leftCcu l h).lowerings = (b.line l).ccu.lowerings ∧
      (b.leftCcu l h).releases = (b.line l).ccu.releases := by
  obtain ⟨⟨-, -, hdemand, hatMax⟩, ⟨hreagent, hlowerings, hreleases⟩, -⟩ := b.minuteWork_fields h hs
  rw [hreagent, hlowerings, hreleases, dosedCcu, Ccu.reagentStep_holds _ _ (hatMax ▸ hfew) (hdemand ▸ hhigh)]
  exact b.dosing_reagent l h

/-- R92: the third at-max work in a row is told, with the reagent ceiling it leaves. -/
theorem minuteWork_reagentLimit (hthird : (b.leftCcu l h).atMax = 3) :
    (b.minuteWork l h).pendingWith .reagentLimit (lineNumber l) (u16 (b.leftCcu l h).reagent) := by
  obtain ⟨⟨-, -, -, hatMax⟩, ⟨hreagent, -, -⟩, -⟩ := b.minuteWork_fields h hs
  have hcount : (b.dosedCcu l h).atMax = 3 := by
    rw [dosedCcu, Ccu.reagentStep_eq]
    exact hatMax.symm.trans hthird
  have htold : (b.modCcu l fun _ => b.dosedCcu l h).raiseReagentLimit l =
      (b.modCcu l fun _ => b.dosedCcu l h).raiseLine .reagentLimit l (u16 (b.dosedCcu l h).reagent) := by
    simp [raiseReagentLimit, hcount, Config.atMaxMinutes]
  rw [hreagent, minuteWork_eq b h hs, recompute_pendingWith]
  refine raiseGuardActive_pendingWith_of_ne _ (by simp) ?_
  rw [workSteps, modCcu_pendingWith, htold]
  exact raise_pendingWith ..

theorem leftCcu_guard_held (hcauses : (b.line l).ccu.causes.analyzer = true) :
    (b.leftCcu l h).guard = (b.line l).ccu.guard ∧
      (b.leftCcu l h).guardStepping = (b.line l).ccu.guardStepping := by
  obtain ⟨-, -, ⟨hguard, hstepping⟩, -⟩ := b.minuteWork_fields h hs
  rw [hguard, hstepping, guardedCcu, Ccu.guardStep_of_analyzer _ hcauses]
  exact ⟨rfl, rfl⟩

theorem leftCcu_guard_lowers (hcauses : (b.line l).ccu.causes.analyzer = false)
    (habove : ∃ x, (h.means.get x).above (b.hhLimits.get x) = true) : (b.leftCcu l h).guardStepping = true ∧
      (b.leftCcu l h).guard = min (b.line l).ccu.guard
        (max (b.lineParams l).guardFloor ((b.line l).ccu.guard - (b.lineParams l).guardStep)) := by
  obtain ⟨-, -, ⟨hguard, hstepping⟩, -⟩ := b.minuteWork_fields h hs
  rw [hguard, hstepping, guardedCcu, Ccu.guardStep_lowers _ hcauses habove]
  exact ⟨rfl, rfl⟩

theorem leftCcu_guard_of_none_above (hcauses : (b.line l).ccu.causes.analyzer = false)
    (habove : ∀ x, ¬(h.means.get x).above (b.hhLimits.get x) = true) : (b.leftCcu l h).guardStepping = false ∧
      (b.leftCcu l h).guard = if guardClear h.means b.hhLimits then
        min 1100 ((b.line l).ccu.guard + (b.lineParams l).guardStep) else (b.line l).ccu.guard := by
  obtain ⟨-, -, ⟨hguard, hstepping⟩, -⟩ := b.minuteWork_fields h hs
  rw [hguard, hstepping, guardedCcu, Ccu.guardStep_of_none_above _ hcauses habove]
  exact ⟨rfl, rfl⟩

/-- R94: the guard that begins to lower is told, with the lowest-indexed pollutant and the ceiling it leaves. -/
theorem minuteWork_guardActive {x : Pollutant} (hcauses : (b.line l).ccu.causes.analyzer = false)
    (hrest : (b.line l).ccu.guardStepping = false) (hx : (h.means.get x).above (b.hhLimits.get x) = true)
    (hleast : ∀ y, (h.means.get y).above (b.hhLimits.get y) = true → x.index ≤ y.index) :
    (b.minuteWork l h).pendingWith .guardActive (lineNumber l) (byte x.index :: u16 (b.leftCcu l h).guard) := by
  obtain ⟨-, -, ⟨hguard, hstepping⟩, -⟩ := b.minuteWork_fields h hs
  obtain ⟨hbegun, -⟩ := leftCcu_guard_lowers hs hcauses ⟨x, hx⟩
  have hnow : (b.guardedCcu l h).guardStepping = true := hstepping.symm.trans hbegun
  have htold : (b.workSteps l h).raiseGuardActive l false (some x) =
      (b.workSteps l h).raiseLine .guardActive l (byte x.index :: u16 (b.guardedCcu l h).guard) := by
    simp [raiseGuardActive, workedCcu_eq, hnow, u8]
  rw [hguard, minuteWork_eq b h hs, recompute_pendingWith, hcauses, hrest, guardAbove_eq_some hx hleast,
    if_neg Bool.false_ne_true, htold]
  exact raise_pendingWith ..

end

/-! ## Minute closes and hand-overs in pairs (R85) -/

section
variable {b} {l : LineId}

theorem ccuClose_paired {g : HandOver} {gs : List HandOver} (m : MinuteId)
    (h : (b.line l).ccu.unmatched = .handOvers (g :: gs)) : b.ccuClose l m =
      (b.modCcu l fun c => { c with unmatched := if gs = [] then .closes [] else .handOvers gs }).minuteWork l g := by
  simp [ccuClose, h]

theorem ccuClose_kept {ms : List MinuteId} (m : MinuteId) (h : (b.line l).ccu.unmatched = .closes ms) :
    b.ccuClose l m = b.modCcu l fun c => { c with unmatched := .closes (ms ++ [m]) } := by
  simp [ccuClose, h]

theorem ccuHandOver_paired {k : MinuteId} {ks : List MinuteId} (g : HandOver)
    (h : (b.line l).ccu.unmatched = .closes (k :: ks)) :
    b.ccuHandOver l g = (b.modCcu l fun c => { c with unmatched := .closes ks }).minuteWork l g := by
  simp [ccuHandOver, h]

theorem ccuHandOver_first (g : HandOver) (h : (b.line l).ccu.unmatched = .closes []) :
    b.ccuHandOver l g = b.modCcu l fun c => { c with unmatched := .handOvers [g] } := by
  simp [ccuHandOver, h]

theorem ccuHandOver_kept {gs : List HandOver} (g : HandOver) (h : (b.line l).ccu.unmatched = .handOvers gs) :
    b.ccuHandOver l g = b.modCcu l fun c => { c with unmatched := .handOvers (gs ++ [g]) } := by
  simp [ccuHandOver, h]

end
end Block
end Sys2Proof.Machine
end

section
/-! The LHV estimator at a minute close of the GFU: the usable slots of the ring, and its three outcomes (R51 to
R53). -/

namespace Sys2Proof.Machine
open Sys2Proof

/-- The slots of a ring the estimator uses, as the ring holds them (R52). -/
def usableRing (ring : List RingSlot) : List RingSlot := ring.filter fun x => x.firing && x.steam.isSome

/-- The heat in of usable slots (R52). -/
def ringHeat (p : LineParams) (slots : List RingSlot) : Nat :=
  (slots.map fun x => x.steam.getD 0 * p.hNet / 36 * 1000 / p.eta).sum

/-- The mass fed in usable slots (R52). -/
def ringMass (slots : List RingSlot) : Nat := (slots.map RingSlot.mass).sum

theorem usableSlots_eq (ring : List RingSlot) :
    usableSlots ring = (usableRing ring).map fun x => (x.steam.getD 0, x.mass) := by
  unfold usableSlots usableRing
  induction ring with
  | nil => rfl
  | cons s ss ih =>
    rw [List.filterMap_cons, List.filter_cons, ih]
    cases hf : s.firing with
    | false => simp
    | true => cases hst : s.steam <;> simp [hst]

theorem usableSlots_length (ring : List RingSlot) : (usableSlots ring).length = (usableRing ring).length := by
  simp [usableSlots_eq]

theorem usableSlots_heat (p : LineParams) (ring : List RingSlot) :
    ((usableSlots ring).map fun s => heatIn p s.1).sum = ringHeat p (usableRing ring) := by
  rw [usableSlots_eq, List.map_map]
  rfl

theorem usableSlots_mass (ring : List RingSlot) :
    ((usableSlots ring).map Prod.snd).sum = ringMass (usableRing ring) := by
  rw [usableSlots_eq, List.map_map]
  rfl

theorem clamp_lhv (x : Nat) : clamp Config.lhvMin Config.lhvMax x = max 5000 (min x 16000) :=
  clamp_eq (by decide) x

section
variable {g : Gfu} (p : LineParams)

/-- R53: fewer than 10 usable slots hold the estimate. -/
theorem Gfu.estimate_few (h : (usableRing g.ring).length < 10) : g.estimate p =
    { g with estResult := .few, usable := (usableRing g.ring).length } := by
  simp only [Gfu.estimate, usableSlots_length]
  exact if_pos h

/-- R53: usable slots of less than three stroke masses hold the estimate. -/
theorem Gfu.estimate_light (h : 10 ≤ (usableRing g.ring).length)
    (hlight : ringMass (usableRing g.ring) < 3 * p.strokeMass) : g.estimate p =
      { g with estResult := .light, usable := (usableRing g.ring).length } := by
  simp only [Gfu.estimate, usableSlots_length, usableSlots_mass]
  exact (if_neg h.not_gt).trans (if_pos hlight)

/-- R52: else the estimate moves a quarter of the way to the clamped raw value. -/
theorem Gfu.estimate_moves {found raw : Nat} (h : 10 ≤ (usableRing g.ring).length)
    (hheavy : 3 * p.strokeMass ≤ ringMass (usableRing g.ring))
    (hfound : roundHalfUp (ringHeat p (usableRing g.ring) * 60) (ringMass (usableRing g.ring)) = found)
    (hraw : max 5000 (min found 16000) = raw) : g.estimate p = { g with
      estResult := if found < 5000 then .low else if 16000 < found then .high else .updated
      lastRaw := some raw
      lhv := if g.lhv ≤ raw then g.lhv + (raw - g.lhv) / 4 else g.lhv - (g.lhv - raw) / 4
      usable := (usableRing g.ring).length } := by
  simp only [Gfu.estimate, usableSlots_length, usableSlots_mass, usableSlots_heat, hfound, clamp_lhv, hraw]
  exact (if_neg h.not_gt).trans (if_neg hheavy.not_gt)

end

/-- R51: the slot a close adds, and the ring it is added to. -/
theorem pushSlot_eq (ring : List RingSlot) (s : RingSlot) :
    pushSlot ring s = (ring ++ [s]).drop (ring.length + 1 - 30) := by
  simp [pushSlot, Config.ringSlots]

/-- The GFU's record as the estimator of a minute close finds it: the slot added, the open minute emptied (R51). -/
def Block.ringed (b : Block) (l : LineId) (m : MinuteId) : Gfu :=
  { (b.line l).gfu with
    ring := pushSlot (b.line l).gfu.ring ((b.line l).gfu.slot m ((b.line l).lsc.state == .firing))
    fedMass := 0
    steamSum := 0
    steamCount := 0 }

theorem Block.modGfu_const (b : Block) (l : LineId) (f : Gfu → Gfu) :
    b.modGfu l f = b.modGfu l fun _ => f (b.line l).gfu := rfl

theorem Block.gfuClose_eq (b : Block) (l : LineId) (m : MinuteId) :
    b.gfuClose l m = b.modGfu l fun _ => (b.ringed l m).estimate (b.lineParams l) := by
  rw [gfuClose, modGfu_const]
  rfl

theorem Block.ringed_ring (b : Block) (l : LineId) (m : MinuteId) : (b.ringed l m).ring =
    ((b.line l).gfu.ring ++ [if (b.line l).lsc.state = .firing then
      (⟨m, true, if (b.line l).gfu.steamCount = 0 then none
        else some (roundHalfUp (b.line l).gfu.steamSum (b.line l).gfu.steamCount), (b.line l).gfu.fedMass⟩ : RingSlot)
      else ⟨m, false, none, 0⟩]).drop ((b.line l).gfu.ring.length + 1 - 30) := by
  rw [ringed, pushSlot_eq, Gfu.slot]
  simp only [beq_iff_eq]

end Sys2Proof.Machine
end

section
/-! Minutes judged, paired and worked, and the LHV estimate (R51 to R53, R65, R66, R85 to R87, R91 to R97). -/

namespace Sys2Proof.Machine
open Sys2Proof

/-- Settles O20: the minute's status and value by R65 and R66, the minute work by its three independent parts, the
pairing by what waits, the estimator by its three outcomes. -/
theorem minutesAreJudgedAndFormTheDemand : Obligations.MinutesAreJudgedAndFormTheDemand := by
  unfold Obligations.MinutesAreJudgedAndFormTheDemand
  refine ⟨?_, ?_, ?_, ?_⟩
  · intro counted cut wet o2 h2o raw ref m
    have hstatus : m.status = minuteStatus counted cut wet o2 h2o raw := polMinute_status
    rw [hstatus]
    refine ⟨polMinute_cn_isSome_iff, fun c => polMinute_cn_le, minuteStatus_valid_iff, ?_, polMinute_not_over⟩
    rintro hvalid c o rfl rfl value rounded
    refine ⟨?_, ?_⟩
    · rintro rfl h rfl
      exact ⟨fun hr => polMinute_value hvalid (normalized_wet hr),
        fun hr => polMinute_value hvalid (normalized_wet_uncorrected hr)⟩
    · rintro rfl
      exact ⟨fun hr => polMinute_value hvalid (normalized_dry hr),
        fun hr => polMinute_value hvalid (normalized_dry_uncorrected hr)⟩
  · intro b l h
    refine ⟨b.minuteWork_of_not_inService h, fun hs => ?_⟩
    intro t p c d limit load index taken mean above
    have habove (x : Pollutant) : (h.means.get x).above (b.hhLimits.get x) = true ↔ above x := by
      rw [b.hhLimits_get, RunningMean.above_iff]
      rfl
    refine ⟨fun hso2 hhcl => Block.leftCcu_acid_held hs (acidIndexOf_none hso2 hhcl),
      fun i hso2 hhcl => Block.leftCcu_acid_taken hs (acidIndexOf_so2 hso2 hhcl),
      fun i hso2 hhcl => Block.leftCcu_acid_taken hs (acidIndexOf_hcl hso2 hhcl),
      fun i j hso2 hhcl => Block.leftCcu_acid_taken hs (acidIndexOf_both hso2 hhcl),
      Block.leftCcu_demand hs, Block.leftCcu_atMax hs, Block.leftCcu_reagent_lowers hs,
      Block.minuteWork_reagentLimit hs, Block.leftCcu_reagent_rises hs, Block.leftCcu_reagent_holds hs,
      Block.leftCcu_guard_held hs, fun hcauses ⟨z, hz⟩ => ?_, fun hcauses hnone => ?_, Block.leftCcu_effective hs⟩
    · obtain ⟨hstepping, hguard⟩ := Block.leftCcu_guard_lowers hs hcauses ⟨z, (habove z).2 hz⟩
      exact ⟨hstepping, hguard, fun hrest x hx hleast => Block.minuteWork_guardActive hs hcauses hrest
        ((habove x).2 hx) fun y hy => hleast y ((habove y).1 hy)⟩
    · obtain ⟨hstepping, hguard⟩ :=
        Block.leftCcu_guard_of_none_above hs hcauses fun x hx => hnone x ((habove x).1 hx)
      have hclear : guardClear h.means b.hhLimits = true ↔
          (∃ x, (mean x).isSome = true) ∧ ∀ x m, mean x = some m → m < limit x * 800 / 1000 := by
        simp only [guardClear_iff, b.hhLimits_get]
        rfl
      refine ⟨hstepping, fun hsome hall => hguard.trans (if_pos (hclear.2 ⟨hsome, hall⟩)),
        fun hnot => hguard.trans (if_neg fun h => ?_)⟩
      obtain ⟨⟨x, hx⟩, hall⟩ := hclear.1 h
      rcases hnot with hnot | ⟨y, m, hm, hhigh⟩
      · rw [hnot x] at hx
        cases hx
      · exact hhigh.not_gt (hall y m hm)
  · intro b l m h waiting put
    refine ⟨fun g gs hw => ⟨Block.ccuHandOver_kept h hw, Block.ccuClose_paired m hw⟩,
      fun k ks hw => ⟨Block.ccuClose_kept m hw, Block.ccuHandOver_paired h hw⟩,
      fun hw => ⟨Block.ccuClose_kept m hw, Block.ccuHandOver_first h hw⟩⟩
  · intro b l m t p g new slot ring usable heat mass found raw closed
    have hnew : new = (b.ringed l m).estimate p := by
      simp only [new, t, b.gfuClose_eq, Block.modGfu_line_self, p]
    have hring : (b.ringed l m).ring = ring := b.ringed_ring l m
    have husable : usableRing (b.ringed l m).ring = usable := by rw [hring]; rfl
    have hclosed : closed = { b.ringed l m with usable := usable.length } := by
      simp only [closed, ← hring]
      rfl
    refine ⟨?_, ?_, ?_, ?_⟩
    · rw [hnew]
      exact b.gfuClose_eq l m
    · intro hfew
      rw [hnew, Gfu.estimate_few p (husable ▸ hfew), husable, hclosed]
    · intro h hlight
      rw [hnew, Gfu.estimate_light p (husable ▸ h) (husable ▸ hlight), husable, hclosed]
    · intro h hheavy
      have hfound : roundHalfUp (ringHeat p (usableRing (b.ringed l m).ring) * 60)
          (ringMass (usableRing (b.ringed l m).ring)) = found := by rw [husable]; rfl
      rw [hnew, Gfu.estimate_moves (raw := raw) p (husable ▸ h) (husable ▸ hheavy) hfound rfl, husable, hclosed]
      rfl

end Sys2Proof.Machine
end

section
/-! A minute close at the EAU: the slot, the hand-over to the CCU and the return to analyzer A (R59, R63 to R68). -/

namespace Sys2Proof.Machine
open Sys2Proof

/-- A role is fit where it is bound, healthy and has no O2 fault (R56). -/
theorem AnalyzerRole.fit_iff (r : AnalyzerRole) :
    r.fit = true ↔ r.bound = true ∧ r.healthy = true ∧ r.o2Fault = false := by
  simp [fit, available, and_assoc]

namespace Block
variable (b : Block)

/-! ## The hand-over at the CCU -/

@[simp] theorem raiseReagentLimit_onlyLine (l m : LineId) : b.onlyLine (b.raiseReagentLimit l) m := by
  unfold raiseReagentLimit
  dsimp only
  split
  · exact raiseLine_onlyLine ..
  · exact onlyLine_refl b m

@[simp] theorem raiseGuardActive_onlyLine (l m : LineId) (s : Bool) (x : Option Pollutant) :
    b.onlyLine (b.raiseGuardActive l s x) m := by
  unfold raiseGuardActive
  split
  · split
    · exact raiseLine_onlyLine ..
    · exact onlyLine_refl b m
  · exact onlyLine_refl b m

@[simp] theorem minuteWork_onlyLine (l : LineId) (h : HandOver) : b.onlyLine (b.minuteWork l h) l := by
  cases hs : b.inService l with
  | false => simp [minuteWork_of_not_inService b h hs]
  | true =>
    rw [minuteWork_eq b h hs]
    exact onlyLine_trans (onlyLine_trans (onlyLine_trans (onlyLine_trans (modCcu_onlyLine b l _)
      (raiseReagentLimit_onlyLine _ l l)) (modCcu_onlyLine _ l _)) (raiseGuardActive_onlyLine _ l l _ _))
      (recompute_onlyLine _ l)

/-- A hand-over at the CCU is kept, or runs the minute work after it has taken the close that waits (R85). -/
theorem ccuHandOver_cases (l : LineId) (h : HandOver) : ∃ x : Unmatched,
    let kept := b.modCcu l fun c => { c with unmatched := x }
    b.ccuHandOver l h = kept ∨ b.ccuHandOver l h = kept.minuteWork l h := by
  cases hw : (b.line l).ccu.unmatched with
  | handOvers gs => exact ⟨_, .inl (ccuHandOver_kept h hw)⟩
  | closes ks =>
    cases ks with
    | nil => exact ⟨_, .inl (ccuHandOver_first h hw)⟩
    | cons k ks => exact ⟨_, .inr (ccuHandOver_paired h hw)⟩

@[simp] theorem ccuHandOver_onlyLine (l : LineId) (h : HandOver) : b.onlyLine (b.ccuHandOver l h) l := by
  obtain ⟨x, hkept | hworked⟩ := b.ccuHandOver_cases l h
  · rw [hkept]
    exact modCcu_onlyLine b l _
  · rw [hworked]
    exact onlyLine_trans (modCcu_onlyLine b l _) (minuteWork_onlyLine _ l h)

@[simp] theorem ccuHandOver_eau (l : LineId) (h : HandOver) :
    ((b.ccuHandOver l h).line l).eau = (b.line l).eau := by
  obtain ⟨x, hkept | hworked⟩ := b.ccuHandOver_cases l h
  · simp [hkept]
  · simp [hworked]

/-! ## The return to analyzer A (R59) -/

/-- R59: the condition under which a minute close makes A active again. -/
def returnsToA (l : LineId) : Prop := (b.line l).eau.active = .b ∧ (b.line l).eau.roleA.fit = true

/-- The selection changed to A, which brings no cause as it was not NONE (R59, R61). -/
def switchedToA (l : LineId) : Block :=
  (b.modEau l fun e => { e with active := .a, switches := satAdd Config.max16 e.switches 1 }).raiseLine
    .analyzerSwitch l [byte 0]

variable {b} in
theorem returnToA_of_not {l : LineId} (h : ¬b.returnsToA l) : b.returnToA l = b := if_neg h

variable {b} in
theorem returnToA_of {l : LineId} (h : b.returnsToA l) : b.returnToA l = b.switchedToA l := by
  have hselect : b.select l .a = b.switchedToA l := by
    unfold select
    rw [h.1]
    rfl
  exact (if_pos h).trans hselect

@[simp] theorem switchedToA_line (l : LineId) : (b.switchedToA l).line l = { b.line l with
    eau := { (b.line l).eau with
      active := .a, switches := satAdd Config.max16 (b.line l).eau.switches 1 } } := by
  simp [switchedToA]

@[simp] theorem switchedToA_onlyLine (l : LineId) : b.onlyLine (b.switchedToA l) l :=
  onlyLine_trans (modLine_onlyLine b l _) (raiseLine_onlyLine ..)

/-- The return to A changes the selection and its count, one line alone, and no record. -/
theorem returnToA_kept (l : LineId) : ((b.returnToA l).line l).eau = { (b.line l).eau with
      active := ((b.returnToA l).line l).eau.active
      switches := ((b.returnToA l).line l).eau.switches } ∧
    b.onlyLine (b.returnToA l) l ∧ (b.returnToA l).rcs = b.rcs := by
  by_cases h : b.returnsToA l
  · rw [returnToA_of h, switchedToA_line]
    exact ⟨rfl, switchedToA_onlyLine b l, by simp [switchedToA]⟩
  · rw [returnToA_of_not h]
    exact ⟨rfl, onlyLine_refl b l, rfl⟩

/-! ## The minute close (R63 to R68) -/

/-- The line's EAU after a minute close, before the return to A: the slot written, the accumulators emptied. -/
def minuteTabled (l : LineId) (m : MinuteId) (cut : Bool) : Block := b.modEau l fun e =>
  { e with
    table := e.table.set (m.minute % 30) (some (b.minuteSlot l cut))
    last := some ⟨(b.minuteSlot l cut).pol, (b.minuteSlot l cut).o2, (b.minuteSlot l cut).h2o⟩
    samples := .const ⟨0, 0⟩
    mass := 0 }

/-- The part after a minute close at the EAU, before the return to A. -/
def minuteHanded (l : LineId) (m : MinuteId) (cut : Bool) : Block :=
  (b.minuteTabled l m cut).ccuHandOver l ((b.minuteTabled l m cut).handOver l m (b.minuteSlot l cut))

theorem eauMinute_eq (l : LineId) (m : MinuteId) (cut : Bool) :
    b.eauMinute l m cut = (b.minuteHanded l m cut).returnToA l := rfl

theorem minuteHanded_eau (l : LineId) (m : MinuteId) (cut : Bool) :
    ((b.minuteHanded l m cut).line l).eau = { (b.line l).eau with
      table := (b.line l).eau.table.set (m.minute % 30) (some (b.minuteSlot l cut))
      last := some ⟨(b.minuteSlot l cut).pol, (b.minuteSlot l cut).o2, (b.minuteSlot l cut).h2o⟩
      samples := .const ⟨0, 0⟩
      mass := 0 } := by
  simp [minuteHanded, minuteTabled]

/-- The slot and its hand-over leave what the return to A tests (R59). -/
theorem minuteHanded_returnsToA {l : LineId} {m : MinuteId} {cut : Bool} :
    (b.minuteHanded l m cut).returnsToA l ↔ (b.line l).eau.active = .b ∧ (b.line l).eau.roleA.bound = true ∧
      (b.line l).eau.roleA.healthy = true ∧ (b.line l).eau.roleA.o2Fault = false := by
  rw [returnsToA, minuteHanded_eau, AnalyzerRole.fit_iff]

theorem minuteHanded_kept (l : LineId) (m : MinuteId) (cut : Bool) :
    b.onlyLine (b.minuteHanded l m cut) l ∧ (b.minuteHanded l m cut).rcs = b.rcs :=
  ⟨onlyLine_trans (modLine_onlyLine b l _) (ccuHandOver_onlyLine _ l _), by simp [minuteHanded, minuteTabled]⟩

/-- The hand-over of a minute holds the running means of the table with the minute's slot in it (R68). -/
theorem minuteTabled_handOver (l : LineId) (m : MinuteId) (cut : Bool) :
    (b.minuteTabled l m cut).handOver l m (b.minuteSlot l cut) =
      ⟨m, (b.minuteSlot l cut).pol.so2, (b.minuteSlot l cut).pol.hcl, .tabulate fun x =>
        runningMean ((b.line l).eau.table.set (m.minute % 30) (some (b.minuteSlot l cut))) x⟩ := by
  simp [handOver, minuteTabled]

theorem eauMinute_eau (l : LineId) (m : MinuteId) (cut : Bool) :
    ((b.eauMinute l m cut).line l).eau = { ((b.minuteHanded l m cut).line l).eau with
      active := ((b.eauMinute l m cut).line l).eau.active
      switches := ((b.eauMinute l m cut).line l).eau.switches } := by
  obtain ⟨heau, -, -⟩ := (b.minuteHanded l m cut).returnToA_kept l
  rw [eauMinute_eq]
  exact heau

end Block
end Sys2Proof.Machine
end

section
/-! A half-hour close and a day close at the EAU: the steps along the pollutants, the record entered, and the
notices of an exceedance, which later ones of its kind replace (R69 to R79, R203). -/

namespace Sys2Proof.Machine
open Sys2Proof

@[simp] theorem PerPollutant.get_const {α : Type} (a : α) (x : Pollutant) : (PerPollutant.const a).get x = a := by
  cases x <;> rfl

@[simp] theorem PerPollutant.get_set_self {α : Type} (p : PerPollutant α) (x : Pollutant) (a : α) :
    (p.set x a).get x = a := by cases x <;> rfl

theorem PerPollutant.get_set_of_ne {α : Type} (p : PerPollutant α) {x y : Pollutant} (a : α) (h : y ≠ x) :
    (p.set x a).get y = p.get y := by
  revert h
  cases x <;> cases y <;> simp [PerPollutant.set, PerPollutant.get]

/-! ## The tallies along the pollutants (R79) -/

/-- One more exceedance in the tally of a pollutant where it is exceeded (R79). -/
def addTally (exceeded : Pollutant → Bool) (t : PerPollutant Nat) (x : Pollutant) : PerPollutant Nat :=
  if exceeded x then t.set x (satAdd Config.max16 (t.get x) 1) else t

/-- The tallies after a close: one more for each exceeded pollutant, taken in index order (R79). -/
def tallied (exceeded : Pollutant → Bool) (t : PerPollutant Nat) : PerPollutant Nat :=
  allPollutants.foldl (addTally exceeded) t

theorem addTally_get (f : Pollutant → Bool) (t : PerPollutant Nat) (x y : Pollutant) :
    (addTally f t x).get y = if x = y ∧ f y = true then min 65535 (t.get y + 1) else t.get y := by
  by_cases h : f x = true
  · rw [addTally, if_pos h]
    by_cases hxy : x = y
    · subst hxy
      rw [PerPollutant.get_set_self, if_pos ⟨rfl, h⟩]
      rfl
    · rw [PerPollutant.get_set_of_ne _ _ (Ne.symm hxy), if_neg fun g => hxy g.1]
  · rw [addTally, if_neg h, if_neg]
    rintro ⟨rfl, hf⟩
    exact h hf

/-- Each pollutant is taken once. -/
theorem tallied_get (f : Pollutant → Bool) (t : PerPollutant Nat) (x : Pollutant) :
    (tallied f t).get x = if f x then min 65535 (t.get x + 1) else t.get x := by
  simp only [tallied, allPollutants, List.foldl, addTally_get]
  cases x <;> simp

theorem tallied_of_none {f : Pollutant → Bool} (h : ∀ x, f x = false) (t : PerPollutant Nat) : tallied f t = t := by
  simp [tallied, allPollutants, addTally, h]

namespace Block
variable (b : Block)

/-! ## Steps along the pollutants -/

/-- Steps in index order that raise one notice each leave the detail of the last one that did (R203). -/
theorem foldl_pendingWith {step : Block → Pollutant → Block} {told : Pollutant → Prop} {k : NoticeKind} {n : Nat}
    {d : Pollutant → List Byte} (hraise : ∀ b x, told x → (step b x).pendingWith k n (d x))
    (hkeep : ∀ b x, ¬told x → (step b x).notice k n = b.notice k n) {x : Pollutant} (hx : told x)
    (hlast : ∀ z, told z → z.index ≤ x.index) : (allPollutants.foldl step b).pendingWith k n (d x) := by
  have hkeeps (bs : List Pollutant) (hbs : ∀ z ∈ bs, ¬told z) (b : Block) :
      (bs.foldl step b).notice k n = b.notice k n := by
    induction bs generalizing b with
    | nil => rfl
    | cons z zs ih =>
      rw [List.foldl_cons, ih (fun y hy => hbs y (List.mem_cons_of_mem z hy)), hkeep b z (hbs z List.mem_cons_self)]
  obtain ⟨as, bs, hall⟩ := List.append_of_mem (mem_allPollutants x)
  have hpair := allPollutants_pairwise
  rw [hall] at hpair
  have hafter (z : Pollutant) (hz : z ∈ bs) : ¬told z := fun h =>
    (List.rel_of_pairwise_cons (List.pairwise_append.1 hpair).2.1 hz).not_ge (hlast z h)
  rw [hall, List.foldl_append, List.foldl_cons, pendingWith, hkeeps bs hafter]
  exact hraise _ x hx

/-- Steps that change of a line its tallies alone, as its exceedances do. -/
theorem foldl_line_tallied {step : Block → Pollutant → Block} {l : LineId} {f : Pollutant → Bool}
    (hstep : ∀ b x, (step b x).line l = { b.line l with
      eau := { (b.line l).eau with tallies := addTally f (b.line l).eau.tallies x } }) :
    (allPollutants.foldl step b).line l = { b.line l with
      eau := { (b.line l).eau with tallies := tallied f (b.line l).eau.tallies } } := by
  unfold tallied
  induction allPollutants generalizing b with
  | nil => rfl
  | cons x xs ih => rw [List.foldl_cons, ih, hstep, List.foldl_cons]

/-! ## An exceedance (R72, R76, R79) -/

@[simp] theorem exceed_line (l : LineId) (x : Pollutant) (d : List Byte) : (b.exceed l x d).line l = { b.line l with
    eau := { (b.line l).eau with
      tallies := (b.line l).eau.tallies.set x (satAdd Config.max16 ((b.line l).eau.tallies.get x) 1) } } := by
  simp [exceed]

theorem exceed_pendingWith (l : LineId) (x : Pollutant) (d : List Byte) :
    (b.exceed l x d).pendingWith .exceedance (lineNumber l) (byte x.index :: d) :=
  raise_pendingWith ..

theorem exceed_notice_of_ne (l : LineId) (x : Pollutant) (d : List Byte) {k : NoticeKind} (h : k ≠ .exceedance)
    (n : Nat) : (b.exceed l x d).notice k n = b.notice k n :=
  raise_notice_of_ne b (fun g => h g.1) _

theorem enterRecord_pendingWith {l : LineId} {r : RecordBody} {k : NoticeKind} {n : Nat} {d : List Byte}
    (h : k ≠ .recordsLost) : (b.enterRecord l r).pendingWith k n d ↔ b.pendingWith k n d := by
  rw [pendingWith, enterRecord_notice_of_ne b l r h]
  rfl

theorem modEau_pendingWith {l : LineId} {f : Eau → Eau} {k : NoticeKind} {n : Nat} {d : List Byte} :
    (b.modEau l f).pendingWith k n d ↔ b.pendingWith k n d := pendingWith_congr (by simp)

end Block

/-! ## A pollutant's half-hour (R70, R72) -/

theorem meanOf_eq (vs : List Nat) : meanOf vs = if vs = [] then none else some (roundHalfUp vs.sum vs.length) := rfl

section
variable (table : List (Option MinuteSlot)) (n limit : Nat) (x : Pollutant)

/-- The average of a pollutant's half-hour is valid from 20 VALID minutes of 20 counted on (R70). -/
theorem halfHourPol_valid_iff : ((halfHourPol table n x).judge limit).valid = true ↔
    20 ≤ n ∧ 20 ≤ (validCns table x).length := by
  have hvalid : ((halfHourPol table n x).judge limit).valid =
      (decide (20 ≤ n) && decide (20 ≤ (validCns table x).length)) := rfl
  rw [hvalid, Bool.and_eq_true, decide_eq_true_iff, decide_eq_true_iff]

theorem halfHourPol_average : ((halfHourPol table n x).judge limit).average = meanOf (validCns table x) := rfl

variable {table x}

/-- A valid average is the mean of its minutes (R70). -/
theorem meanOf_validCns (h : 20 ≤ (validCns table x).length) :
    (meanOf (validCns table x)).getD 0 = roundHalfUp (validCns table x).sum (validCns table x).length := by
  rw [meanOf_eq, if_neg (List.ne_nil_of_length_pos (by omega)), Option.getD_some]

theorem halfHourPol_exceeded_iff : ((halfHourPol table n x).judge limit).exceeded = true ↔
    20 ≤ n ∧ 20 ≤ (validCns table x).length ∧
      limit < roundHalfUp (validCns table x).sum (validCns table x).length := by
  have hexceeded : ((halfHourPol table n x).judge limit).exceeded =
      (((halfHourPol table n x).judge limit).valid && decide (limit < (meanOf (validCns table x)).getD 0)) := rfl
  rw [hexceeded, Bool.and_eq_true, halfHourPol_valid_iff, decide_eq_true_iff, and_assoc]
  refine and_congr_right fun _ => and_congr_right fun hvalid => ?_
  rw [meanOf_validCns hvalid]

end

/-- A complete half-hour adds each pollutant's valid average to the day, or one invalid count (R75). -/
theorem DayAcc.addComplete_pol (acc : DayAcc) (q : PerPollutant HalfHourQuantity) (x : Pollutant) :
    (acc.addComplete q).pol.get x = if (q.get x).valid then
      ⟨(acc.pol.get x).sum + (q.get x).average.getD 0, min 255 ((acc.pol.get x).valid + 1), (acc.pol.get x).invalid⟩
    else ⟨(acc.pol.get x).sum, (acc.pol.get x).valid, min 255 ((acc.pol.get x).invalid + 1)⟩ :=
  PerPollutant.get_tabulate ..

namespace Block
variable (b : Block) {l : LineId} {y d i : Nat} {cut : Bool}

/-! ## The half-hour close (R69 to R75) -/

/-- The pollutants' entries of the half-hour that closes (R70, R72). -/
def closingPols (l : LineId) : PerPollutant HalfHourQuantity :=
  b.halfHourPols l (countedSlots (b.line l).eau.table).length

theorem closingPols_get (l : LineId) (x : Pollutant) : (b.closingPols l).get x =
    (halfHourPol (b.line l).eau.table (countedSlots (b.line l).eau.table).length x).judge
      (b.cmc.params.quantity.get x).hhLimit := by
  rw [closingPols, halfHourPols, PerPollutant.get_tabulate, hhLimits_get]

/-- The day accumulator after a half-hour of `n` counted minutes: one complete from 20 on, else one partial (R75). -/
def dayAfter (l : LineId) (n : Nat) (day : DayAcc) : DayAcc :=
  if 20 ≤ n then day.addComplete (b.closingPols l) else { day with partials := min 255 (day.partials + 1) }

theorem dayAfter_complete {n : Nat} {day : DayAcc} (h : 20 ≤ n) :
    b.dayAfter l n day = day.addComplete (b.closingPols l) := if_pos h

theorem dayAfter_partial {n : Nat} {day : DayAcc} (h : n < 20) :
    b.dayAfter l n day = { day with partials := min 255 (day.partials + 1) } := if_neg h.not_ge

theorem exceedHalfHour_line (l : LineId) (i : Nat) (q : PerPollutant HalfHourQuantity) :
    (b.exceedHalfHour l i q).line l = { b.line l with eau := { (b.line l).eau with
      tallies := tallied (fun x => (q.get x).exceeded) (b.line l).eau.tallies } } := by
  refine b.foldl_line_tallied fun b x => ?_
  unfold addTally
  split
  · exact exceed_line b l x _
  · rfl

/-- Of several exceedances of a half-hour the last detail stands (R72, R203). -/
theorem exceedHalfHour_pendingWith (l : LineId) (i : Nat) {q : PerPollutant HalfHourQuantity} {x : Pollutant}
    (hx : (q.get x).exceeded = true) (hlast : ∀ z, (q.get z).exceeded = true → z.index ≤ x.index) :
    (b.exceedHalfHour l i q).pendingWith .exceedance (lineNumber l) [byte x.index, byte 0, byte i] := by
  refine b.foldl_pendingWith (told := fun x => (q.get x).exceeded = true)
    (d := fun x => [byte x.index, byte 0, byte i]) (fun b x h => ?_) (fun b x h => ?_) hx hlast
  · rw [if_pos h]
    exact exceed_pendingWith ..
  · rw [if_neg h]

/-- A half-hour with no counted minute clears the table and does no more (R69). -/
theorem eauHalfHour_empty (h : (countedSlots (b.line l).eau.table).length = 0) :
    b.eauHalfHour l y d i cut = b.modEau l fun e => { e with table := emptyTable } := if_pos h

/-- A half-hour with counted minutes: its exceedances, the day accumulator, the record, then the table cleared (R72,
R73, R75). -/
theorem eauHalfHour_counted (h : (countedSlots (b.line l).eau.table).length ≠ 0) : b.eauHalfHour l y d i cut =
    ((((b.exceedHalfHour l i (b.closingPols l)).modEau l fun e =>
      { e with day := b.dayAfter l (countedSlots (b.line l).eau.table).length e.day }).enterRecord l
        (.halfHour (b.halfHourRecord l y d i cut (b.closingPols l)))).modEau l fun e =>
          { e with table := emptyTable }) := if_neg h

theorem eauHalfHour_eau (h : (countedSlots (b.line l).eau.table).length ≠ 0) :
    ((b.eauHalfHour l y d i cut).line l).eau = { (b.line l).eau with
      table := emptyTable
      day := b.dayAfter l (countedSlots (b.line l).eau.table).length (b.line l).eau.day
      tallies := tallied (fun x => ((b.closingPols l).get x).exceeded) (b.line l).eau.tallies } := by
  simp [b.eauHalfHour_counted h, exceedHalfHour_line]

theorem eauHalfHour_newest (h : (countedSlots (b.line l).eau.table).length ≠ 0) :
    (b.eauHalfHour l y d i cut).rcs.records.getLast? = some ⟨b.rcs.nextSerial, l,
      .halfHour (b.halfHourRecord l y d i cut (b.closingPols l))⟩ := by
  rw [b.eauHalfHour_counted h]
  refine (enterRecord_newest ..).trans ?_
  simp

theorem eauHalfHour_pendingWith {x : Pollutant} (hx : ((b.closingPols l).get x).exceeded = true)
    (h : (countedSlots (b.line l).eau.table).length ≠ 0)
    (hlast : ∀ z, ((b.closingPols l).get z).exceeded = true → z.index ≤ x.index) :
    (b.eauHalfHour l y d i cut).pendingWith .exceedance (lineNumber l) [byte x.index, byte 0, byte i] := by
  rw [b.eauHalfHour_counted h, modEau_pendingWith, enterRecord_pendingWith _ (by simp), modEau_pendingWith]
  exact b.exceedHalfHour_pendingWith l i hx hlast

/-! ## The day close (R76 to R79) -/

theorem dayPol_deficient_iff (q : DayPol) (limit : Nat) : (dayPol q limit).deficient = true ↔ 5 < q.invalid :=
  decide_eq_true_iff

/-- EXCEEDED needs an average (R76). -/
theorem dayPol_exceeded_iff (q : DayPol) (limit : Nat) :
    (dayPol q limit).exceeded = true ↔ ∃ a, (dayPol q limit).average = some a ∧ limit < a := by
  have hexceeded : (dayPol q limit).exceeded = decide (limit < (dayPol q limit).average.getD 0) := rfl
  rw [hexceeded, decide_eq_true_iff]
  cases (dayPol q limit).average <;> simp

/-- The pollutants' entries of the day that closes (R76). -/
def closingDay (l : LineId) : PerPollutant DayQuantity :=
  .tabulate fun x => dayPol ((b.line l).eau.day.pol.get x) (b.cmc.params.quantity.get x).dailyLimit

theorem closingDay_get (l : LineId) (x : Pollutant) : (b.closingDay l).get x =
    dayPol ((b.line l).eau.day.pol.get x) (b.cmc.params.quantity.get x).dailyLimit := PerPollutant.get_tabulate ..

/-- The day's notices and tallies, pollutant by pollutant (R76, R79). -/
def dayTold (l : LineId) : Block := allPollutants.foldl (dayNotices l (b.closingDay l)) b

theorem dayNotices_line (l : LineId) (q : PerPollutant DayQuantity) (x : Pollutant) :
    (b.dayNotices l q x).line l = { b.line l with eau := { (b.line l).eau with
      tallies := addTally (fun x => (q.get x).exceeded) (b.line l).eau.tallies x } } := by
  have hraised : (if (q.get x).deficient then b.raiseLine .dayDeficient l (u8 x.index) else b).line l = b.line l := by
    split
    · exact raiseLine_line ..
    · rfl
  unfold dayNotices addTally
  dsimp only
  split
  · rw [exceed_line, hraised]
  · exact hraised

theorem dayNotices_deficient {l : LineId} {q : PerPollutant DayQuantity} {x : Pollutant}
    (h : (q.get x).deficient = true) :
    (b.dayNotices l q x).pendingWith .dayDeficient (lineNumber l) [byte x.index] := by
  have htold := b.raise_pendingWith .dayDeficient (lineNumber l) (u8 x.index)
  unfold dayNotices
  rw [if_pos h]
  dsimp only
  split
  · rw [pendingWith, exceed_notice_of_ne _ _ _ _ (by simp)]
    exact htold
  · exact htold

theorem dayNotices_not_deficient {l : LineId} {q : PerPollutant DayQuantity} {x : Pollutant}
    (h : ¬(q.get x).deficient = true) (n : Nat) :
    (b.dayNotices l q x).notice .dayDeficient n = b.notice .dayDeficient n := by
  unfold dayNotices
  rw [if_neg h]
  dsimp only
  split
  · exact exceed_notice_of_ne _ _ _ _ (by simp) n
  · rfl

theorem dayNotices_exceeded {l : LineId} {q : PerPollutant DayQuantity} {x : Pollutant}
    (h : (q.get x).exceeded = true) :
    (b.dayNotices l q x).pendingWith .exceedance (lineNumber l) [byte x.index, byte 1] := by
  unfold dayNotices
  dsimp only
  rw [if_pos h]
  exact exceed_pendingWith ..

theorem dayNotices_not_exceeded {l : LineId} {q : PerPollutant DayQuantity} {x : Pollutant}
    (h : ¬(q.get x).exceeded = true) (n : Nat) :
    (b.dayNotices l q x).notice .exceedance n = b.notice .exceedance n := by
  unfold dayNotices
  dsimp only
  rw [if_neg h]
  split
  · exact raise_notice_of_ne b (by simp) _
  · rfl

theorem dayTold_line (l : LineId) : (b.dayTold l).line l = { b.line l with eau := { (b.line l).eau with
    tallies := tallied (fun x => ((b.closingDay l).get x).exceeded) (b.line l).eau.tallies } } :=
  b.foldl_line_tallied fun b x => b.dayNotices_line l _ x

theorem dayTold_rcs (l : LineId) : (b.dayTold l).rcs = b.rcs := by
  simp [dayTold, allPollutants]

/-- A day close: the notices and tallies, the record where a half-hour was complete, the accumulator emptied, and
the tallies too at the rollover (R76, R77, R79). -/
theorem eauDay_eq (l : LineId) (y d : Nat) (rollover cut : Bool) : b.eauDay l y d rollover cut =
    (if 1 ≤ (b.line l).eau.day.complete then (b.dayTold l).enterRecord l (.day
      ⟨y, d, (b.line l).eau.day.complete, (b.line l).eau.day.partials, cut, b.closingDay l⟩)
    else b.dayTold l).modEau l fun e =>
      { e with day := .empty, tallies := if rollover then .const 0 else e.tallies } := rfl

theorem eauDay_eau (l : LineId) (y d : Nat) (rollover cut : Bool) :
    ((b.eauDay l y d rollover cut).line l).eau = { (b.line l).eau with
      day := .empty
      tallies := if rollover then .const 0
        else tallied (fun x => ((b.closingDay l).get x).exceeded) (b.line l).eau.tallies } := by
  rw [eauDay_eq, modEau_line_self]
  split <;> simp [dayTold_line]

theorem eauDay_rcs_of_none {rollover : Bool} (h : (b.line l).eau.day.complete = 0) :
    (b.eauDay l y d rollover cut).rcs = b.rcs := by
  rw [eauDay_eq, if_neg (by omega)]
  exact b.dayTold_rcs l

theorem eauDay_newest {rollover : Bool} (h : 1 ≤ (b.line l).eau.day.complete) :
    (b.eauDay l y d rollover cut).rcs.records.getLast? = some ⟨b.rcs.nextSerial, l, .day
      ⟨y, d, (b.line l).eau.day.complete, (b.line l).eau.day.partials, cut, b.closingDay l⟩⟩ := by
  rw [eauDay_eq, if_pos h, ← b.dayTold_rcs l]
  exact enterRecord_newest ..

theorem eauDay_pendingWith {rollover : Bool} {k : NoticeKind} {n : Nat} {detail : List Byte} (h : k ≠ .recordsLost)
    (ht : (b.dayTold l).pendingWith k n detail) : (b.eauDay l y d rollover cut).pendingWith k n detail := by
  rw [eauDay_eq, modEau_pendingWith]
  split
  · rwa [enterRecord_pendingWith _ h]
  · exact ht

/-- Of several deficient pollutants the last detail stands (R76, R203). -/
theorem dayTold_deficient {x : Pollutant} (hx : ((b.closingDay l).get x).deficient = true)
    (hlast : ∀ z, ((b.closingDay l).get z).deficient = true → z.index ≤ x.index) :
    (b.dayTold l).pendingWith .dayDeficient (lineNumber l) [byte x.index] :=
  b.foldl_pendingWith (d := fun x => [byte x.index]) (fun b _ h => b.dayNotices_deficient h)
    (fun b _ h => b.dayNotices_not_deficient h _) hx hlast

/-- Of several exceedances of a day the last detail stands (R76, R203). -/
theorem dayTold_exceeded {x : Pollutant} (hx : ((b.closingDay l).get x).exceeded = true)
    (hlast : ∀ z, ((b.closingDay l).get z).exceeded = true → z.index ≤ x.index) :
    (b.dayTold l).pendingWith .exceedance (lineNumber l) [byte x.index, byte 1] :=
  b.foldl_pendingWith (d := fun x => [byte x.index, byte 1]) (fun b _ h => b.dayNotices_exceeded h)
    (fun b _ h => b.dayNotices_not_exceeded h _) hx hlast

end Block
end Sys2Proof.Machine
end

section
/-! The closes at the EAU and at the DAU: the minute's slot, the half-hour and its record, the day and the year (R59,
R63 to R69, R72, R73, R75 to R77, R79, R80, R111, R112). -/

namespace Sys2Proof.Machine
open Sys2Proof

/-- Settles O21: each close as the EAU's own steps, with the pollutants' entries read off the table and the day
accumulator, and the notices of several pollutants in index order. -/
theorem halfHourCloseEntersRecord : Obligations.HalfHourCloseEntersRecord := by
  unfold Obligations.HalfHourCloseEntersRecord
  refine ⟨?_, ?_, ?_, ?_⟩
  · intro b l m cut t old new raw judged slot table back h closed
    have hhanded : b.minuteHanded l m cut = closed.ccuHandOver l h := by
      rw [Block.minuteHanded, Block.minuteTabled_handOver]
      rfl
    have hback : (b.minuteHanded l m cut).returnsToA l ↔ back := b.minuteHanded_returnsToA
    obtain ⟨-, honly, hrcs⟩ := (b.minuteHanded l m cut).returnToA_kept l
    obtain ⟨honly', hrcs'⟩ := b.minuteHanded_kept l m cut
    obtain ⟨-, -, -, -, -, hothers⟩ := Block.onlyLine_trans honly' honly
    have heau : new = _ := b.eauMinute_eau l m cut
    rw [b.minuteHanded_eau] at heau
    have hfields : new.table = table ∧ new.last = some ⟨slot.pol, slot.o2, slot.h2o⟩ ∧
        new.samples = .const ⟨0, 0⟩ ∧ new.mass = 0 ∧ new.day = old.day ∧ new.tallies = old.tallies := by
      rw [heau]
      exact ⟨rfl, rfl, rfl, rfl, rfl, rfl⟩
    obtain ⟨htable, hlast, hsamples, hmass, hday, htallies⟩ := hfields
    refine ⟨htable, hlast, hsamples, hmass, hday, htallies, hothers, hrcs.trans hrcs', fun hnot => ?_, fun hb => ?_⟩
    · have ht : t = b.minuteHanded l m cut :=
        (b.eauMinute_eq l m cut).trans (Block.returnToA_of_not (mt hback.1 hnot))
      refine ⟨?_, ht.trans hhanded⟩
      simp only [new, ht, b.minuteHanded_eau, old]
    · have ht : t = (b.minuteHanded l m cut).switchedToA l :=
        (b.eauMinute_eq l m cut).trans (Block.returnToA_of (hback.2 hb))
      refine ⟨?_, ?_, ?_⟩
      · simp only [new, ht, Block.switchedToA_line]
      · rw [ht]
        exact Block.raise_pendingWith ..
      · rw [ht, Block.switchedToA_line, hhanded]
  · intro b l y d i cut n t old new mean valid high
    have hvalid (x : Pollutant) : ((b.closingPols l).get x).valid = true ↔ 20 ≤ n ∧ valid x := by
      rw [b.closingPols_get, halfHourPol_valid_iff]
    have hexceeded (x : Pollutant) : ((b.closingPols l).get x).exceeded = true ↔ 20 ≤ n ∧ high x := by
      rw [b.closingPols_get, halfHourPol_exceeded_iff]
    have haverage (x : Pollutant) : ((b.closingPols l).get x).average =
        if validCns old.table x = [] then none else some (mean x) := by
      rw [b.closingPols_get]
      rfl
    by_cases hn : n = 0
    · have ht : t = b.modEau l fun e => { e with table := emptyTable } := b.eauHalfHour_empty hn
      have heau : new = { old with table := emptyTable } := by simp only [new, ht, Block.modEau_line_self, old]
      refine ⟨by rw [heau], fun _ => ?_, fun h => by omega, fun h => by omega, fun h => by omega⟩
      rw [heau, ht]
      exact ⟨rfl, rfl, rfl, rfl⟩
    · have heau : new = { old with
          table := emptyTable
          day := b.dayAfter l n old.day
          tallies := tallied (fun x => ((b.closingPols l).get x).exceeded) old.tallies } := b.eauHalfHour_eau hn
      have hday : new.day = b.dayAfter l n old.day := by rw [heau]
      have htallies (x : Pollutant) : new.tallies.get x =
          if ((b.closingPols l).get x).exceeded then min 65535 (old.tallies.get x + 1) else old.tallies.get x := by
        rw [heau, tallied_get]
      refine ⟨by rw [heau], fun h => absurd h hn, fun _ => ⟨_, b.eauHalfHour_newest hn, rfl, rfl, rfl, rfl, rfl, rfl,
        rfl, fun x => ⟨?_, ?_, haverage x⟩⟩, fun _ hfew => ⟨?_, ?_⟩, fun hmany => ?_⟩
      · rw [Bool.eq_iff_iff, decide_eq_true_iff]
        exact hvalid x
      · rw [Bool.eq_iff_iff, decide_eq_true_iff]
        exact hexceeded x
      · rw [hday, b.dayAfter_partial hfew]
      · rw [heau]
        exact tallied_of_none (fun x => Bool.eq_false_iff.2 fun h => hfew.not_ge ((hexceeded x).1 h).1) _
      · rw [hday, b.dayAfter_complete hmany]
        refine ⟨rfl, rfl, fun x => ?_⟩
        rw [htallies, DayAcc.addComplete_pol]
        refine ⟨fun hv => ?_, fun hv => ?_, fun hx => if_pos ((hexceeded x).2 ⟨hmany, hx⟩),
          fun hx => if_neg fun h => hx ((hexceeded x).1 h).2, fun hx hlast => ?_⟩
        · rw [if_pos ((hvalid x).2 ⟨hmany, hv⟩), b.closingPols_get, halfHourPol_average, meanOf_validCns hv]
        · rw [if_neg fun h => hv ((hvalid x).1 h).2]
        · exact b.eauHalfHour_pendingWith ((hexceeded x).2 ⟨hmany, hx⟩) hn fun z hz => hlast z ((hexceeded z).1 hz).2
  · intro b l y d rollover cut t old new average short high
    have heau : new = { old with
        day := .empty
        tallies := if rollover then .const 0
          else tallied (fun x => ((b.closingDay l).get x).exceeded) old.tallies } := b.eauDay_eau l y d rollover cut
    have hdeficient (x : Pollutant) : ((b.closingDay l).get x).deficient = true ↔ short x := by
      rw [b.closingDay_get, Block.dayPol_deficient_iff]
    have hexceeded (x : Pollutant) : ((b.closingDay l).get x).exceeded = true ↔ high x := by
      rw [b.closingDay_get, Block.dayPol_exceeded_iff]
      rfl
    refine ⟨by rw [heau]; rfl, by rw [heau], fun h => b.eauDay_rcs_of_none h, fun h => ⟨_, b.eauDay_newest h, rfl, rfl,
      rfl, rfl, rfl, fun x => ?_⟩, fun x => ⟨?_, ?_, ?_, fun hx hlast => ?_, fun hx hlast => ?_⟩⟩
    · intro q
      have hq : q = _ := b.closingDay_get l x
      exact ⟨by rw [hq]; rfl, by rw [hq]; rfl, by rw [hq]; rfl, hdeficient x, hexceeded x⟩
    · rintro rfl
      rw [heau]
      exact PerPollutant.get_const 0 x
    · rintro rfl hx
      rw [heau]
      exact (tallied_get _ _ x).trans (if_pos ((hexceeded x).2 hx))
    · rintro rfl hx
      rw [heau]
      exact (tallied_get _ _ x).trans (if_neg fun h => hx ((hexceeded x).1 h))
    · exact b.eauDay_pendingWith (by simp)
        (b.dayTold_deficient ((hdeficient x).2 hx) fun z hz => hlast z ((hdeficient z).1 hz))
    · exact b.eauDay_pendingWith (by simp)
        (b.dayTold_exceeded ((hexceeded x).2 hx) fun z hz => hlast z ((hexceeded z).1 hz))
  · intro b l y d z cut u
    exact ⟨rfl, rfl, rfl, rfl⟩

end Sys2Proof.Machine
end

section
/-! What leaves every line's LSC record alone: the deliveries to the other owners (R24 to R26), but for a stroke that
times out on a line in service (R11). -/

namespace Sys2Proof.Machine
open Sys2Proof

/-- Every line's LSC record is as before. -/
def Block.LscsKept (a b : Block) : Prop := ∀ l, (b.line l).lsc = (a.line l).lsc

namespace Block.LscsKept
variable {a b t : Block}

theorem refl (b : Block) : LscsKept b b := fun _ => rfl

/-! ## Updates of one block's record -/

theorem of_lines (h : LscsKept a b) (ht : t.lines = b.lines) : LscsKept a t := fun l =>
  (congrArg (fun ls : PerLine Line => (ls.get l).lsc) ht).trans (h l)

theorem modLine {l : LineId} {f : Line → Line} (h : LscsKept a b) (hf : ∀ x, (f x).lsc = x.lsc) :
    LscsKept a (b.modLine l f) := fun m => by
  by_cases hm : m = l
  · subst hm
    rw [modLine_line_self, hf]
    exact h m
  · rw [modLine_line_of_ne b f hm]
    exact h m

theorem modGfu {l : LineId} {f : Gfu → Gfu} (h : LscsKept a b) : LscsKept a (b.modGfu l f) := h.modLine fun _ => rfl
theorem modEau {l : LineId} {f : Eau → Eau} (h : LscsKept a b) : LscsKept a (b.modEau l f) := h.modLine fun _ => rfl
theorem modCcu {l : LineId} {f : Ccu → Ccu} (h : LscsKept a b) : LscsKept a (b.modCcu l f) := h.modLine fun _ => rfl
theorem modDau {l : LineId} {f : Dau → Dau} (h : LscsKept a b) : LscsKept a (b.modDau l f) := h.modLine fun _ => rfl

theorem modCopy {l : LineId} {f : LineCopy → LineCopy} (h : LscsKept a b) : LscsKept a (b.modCopy l f) :=
  h.of_lines rfl

theorem ite {p : Prop} [Decidable p] (hb : LscsKept a b) (ht : LscsKept a t) : LscsKept a (if p then b else t) := by
  split
  · exact hb
  · exact ht

theorem foldl {α : Type} {f : Block → α → Block} (hf : ∀ b x, LscsKept a b → LscsKept a (f b x)) (xs : List α)
    (h : LscsKept a b) : LscsKept a (xs.foldl f b) := by
  induction xs generalizing b with
  | nil => exact h
  | cons x xs ih => exact ih (hf b x h)

/-! ## Notices, records, ceilings, causes and episodes -/

theorem raiseLine {k : NoticeKind} {l : LineId} {d : List Byte} (h : LscsKept a b) :
    LscsKept a (b.raiseLine k l d) := h.of_lines (by simp)

theorem enterRecord {l : LineId} {r : RecordBody} (h : LscsKept a b) : LscsKept a (b.enterRecord l r) :=
  h.of_lines (by simp)

theorem recompute {l : LineId} (h : LscsKept a b) : LscsKept a (b.recompute l) :=
  .ite h h.modCcu.modGfu.modCopy

theorem takeCauses {l : LineId} {c : Causes} (h : LscsKept a b) : LscsKept a (b.takeCauses l c) := h.modCcu.recompute

theorem openEpisode {l : LineId} (h : LscsKept a b) : LscsKept a (b.openEpisode l) := h.modDau.raiseLine

theorem closeEpisode {l : LineId} {r : CloseReason} (h : LscsKept a b) : LscsKept a (b.closeEpisode l r) := by
  unfold Block.closeEpisode
  split
  · exact h
  · exact h.enterRecord.raiseLine.modDau

theorem setCause {l : LineId} {x : Cause} {p : Bool} (h : LscsKept a b) : LscsKept a (b.setCause l x p) :=
  .ite h (takeCauses (.ite (.ite h.modDau.openEpisode h.modDau) (.ite h.modDau.closeEpisode h.modDau)))

/-! ## Strokes -/

/-- A stroke that times out on a line out of service is told to no LSC that acts on it (R11, R13). -/
theorem tryStrokeTimeout {l : LineId} (h : LscsKept a b) (hs : b.inService l = false) :
    LscsKept a (b.tryStrokeTimeout l) := by
  rcases b.tryStrokeTimeout_cases l with ht | ⟨d, ht | ht⟩ <;> rw [ht]
  · exact h
  · exact h.modGfu.raiseLine
  · rw [feedFault_of_not_inService false (by simpa [inService] using hs)]
    exact h.modGfu.raiseLine

theorem strokeIsDue {l : LineId} (h : LscsKept a b) : LscsKept a (b.strokeIsDue l) :=
  .ite (.ite h.modGfu h) (.ite h.modGfu.raiseLine h.modGfu)

theorem tryStrokeDue {l : LineId} (h : LscsKept a b) : LscsKept a (b.tryStrokeDue l) := .ite h.modGfu.strokeIsDue h

theorem pacerCount {l : LineId} (h : LscsKept a b) : LscsKept a (b.pacerCount l) := .ite h.modGfu h.modGfu

/-- The second tick of the GFU of a line out of service (R40, R45). -/
theorem gfuTick {l : LineId} (h : LscsKept a b) (hs : b.inService l = false) : LscsKept a (b.gfuTick l) :=
  (h.modGfu.tryStrokeTimeout (by simpa [inService] using hs)).pacerCount.tryStrokeDue

theorem gfuClose {l : LineId} {m : MinuteId} (h : LscsKept a b) : LscsKept a (b.gfuClose l m) := h.modGfu

/-! ## Minute work and emission -/

theorem minuteWork {l : LineId} {m : HandOver} (h : LscsKept a b) : LscsKept a (b.minuteWork l m) := by
  have hlimit {b : Block} (h : LscsKept a b) : LscsKept a (b.raiseReagentLimit l) := h.of_lines (by simp)
  have hguard {b : Block} {s : Bool} {x : Option Pollutant} (h : LscsKept a b) :
      LscsKept a (b.raiseGuardActive l s x) := h.of_lines (by simp)
  exact .ite (hguard (hlimit h.modCcu).modCcu).recompute h

theorem ccuClose {l : LineId} {m : MinuteId} (h : LscsKept a b) : LscsKept a (b.ccuClose l m) := by
  unfold Block.ccuClose
  split
  · exact h.modCcu.minuteWork
  · exact h.modCcu
  · exact h.modCcu

theorem ccuHandOver {l : LineId} {m : HandOver} (h : LscsKept a b) : LscsKept a (b.ccuHandOver l m) := by
  unfold Block.ccuHandOver
  split
  · exact h.modCcu.minuteWork
  · exact h.modCcu
  · exact h.modCcu

theorem returnToA {l : LineId} (h : LscsKept a b) : LscsKept a (b.returnToA l) := by
  have hselect {x : Selection} : LscsKept a (b.select l x) :=
    .ite h (.ite h.modEau.raiseLine.setCause (.ite h.modEau.raiseLine.setCause h.modEau.raiseLine))
  exact .ite hselect h

theorem exceed {l : LineId} {x : Pollutant} {d : List Byte} (h : LscsKept a b) : LscsKept a (b.exceed l x d) :=
  h.raiseLine.modEau

theorem eauHalfHour {l : LineId} {y d i : Nat} {cut : Bool} (h : LscsKept a b) :
    LscsKept a (b.eauHalfHour l y d i cut) := by
  have hnotices {q : PerPollutant HalfHourQuantity} : LscsKept a (b.exceedHalfHour l i q) :=
    foldl (fun _ _ h => .ite h.exceed h) allPollutants h
  exact .ite h.modEau hnotices.modEau.enterRecord.modEau

theorem eauDay {l : LineId} {y d : Nat} {r cut : Bool} (h : LscsKept a b) : LscsKept a (b.eauDay l y d r cut) := by
  have hnotices {q : PerPollutant DayQuantity} : LscsKept a (allPollutants.foldl (Block.dayNotices l q) b) := by
    refine foldl (fun b x h => ?_) allPollutants h
    have hdeficient : LscsKept a (if (q.get x).deficient then b.raiseLine .dayDeficient l (u8 x.index) else b) :=
      .ite h.raiseLine h
    exact .ite hdeficient.exceed hdeficient
  exact modEau (.ite hnotices.enterRecord hnotices)

theorem eauClose {l : LineId} {c : Close} (h : LscsKept a b) : LscsKept a (b.eauClose l c) := by
  cases c with
  | minute m cut => exact h.modEau.ccuHandOver.returnToA
  | halfHour y d i cut => exact h.eauHalfHour
  | day y d r cut => exact h.eauDay
  | yearChange old new => exact h

theorem limitNotices {l : LineId} {f : LimitFound} {m u : Nat} (h : LscsKept a b) :
    LscsKept a (b.limitNotices l f m u) := h.of_lines (by simp)

theorem dauMinute {l : LineId} (h : LscsKept a b) : LscsKept a (b.dauMinute l) := by
  unfold Block.dauMinute
  split
  · exact h
  · exact h.modDau.limitNotices

theorem dauClose {l : LineId} {c : Close} (h : LscsKept a b) : LscsKept a (b.dauClose l c) := by
  cases c with
  | minute m cut => exact h.dauMinute
  | halfHour y d i cut => exact h
  | day y d r cut => exact .ite h.modDau h
  | yearChange old new => exact h.modDau

end Block.LscsKept
end Sys2Proof.Machine
end

section
/-! A line that has fallen from service: the rundown its LSC takes (R10, R108), and that no delivery and no second tick
gives it another cause or brings it back to service (R13, R14). -/

namespace Sys2Proof.Machine
open Sys2Proof

/-- The LSC is in RUNDOWN, or has ended it in IDLE, with this cause. -/
def Lsc.Fell (x : Lsc) (c : RundownCause) : Prop := (x.state = .rundown ∨ x.state = .idle) ∧ x.cause = c

/-- The LSC has fallen with this cause, or is in service and falls with it as it takes the rundown that waits. -/
def Lsc.Falls (x : Lsc) (c : RundownCause) : Prop :=
  x.Fell c ∨ ((x.state = .firing ∨ x.state = .hold) ∧ x.limitDue = some c)

namespace Block
variable {b t : Block} {l : LineId} {c : RundownCause}

/-! ## The rundown taken (R10, R13, R108) -/

theorem takeRundown_of_inService (c : RundownCause) (h : b.inService l = true) :
    b.takeRundown l c = b.enterRundown l c := if_pos h

theorem takeRundown_of_not_inService (c : RundownCause) (h : b.inService l = false) : b.takeRundown l c = b :=
  if_neg (by simp [h])

theorem not_inService_of_rundown (h : (b.line l).lsc.state = .rundown) : b.inService l = false := by
  simp [inService, h]

theorem enterRundown_dau (b : Block) (l : LineId) (c : RundownCause) :
    ((b.enterRundown l c).line l).dau = (b.line l).dau :=
  ((b.modLsc l _).entered_line l .rundown).2.1.trans (by simp)

theorem takeRundown_onlyLine (b : Block) (l : LineId) (c : RundownCause) : b.onlyLine (b.takeRundown l c) l := by
  unfold takeRundown
  split <;> simp

theorem takeLimit_onlyLine (b : Block) (l : LineId) : b.onlyLine (b.takeLimit l) l := by
  unfold takeLimit
  split
  · simp
  · exact onlyLine_trans (takeRundown_onlyLine b l _) (modLsc_onlyLine _ l _)

theorem takeLimitNow_onlyLine (b : Block) (l : LineId) : b.onlyLine (b.takeLimitNow l) l := by
  unfold takeLimitNow
  split
  · simp
  · exact takeLimit_onlyLine b l

/-- What the LSC's taking of the rundown that waits for it leaves of the line (R108). -/
structure LimitTaken (before : Line) (c : RundownCause) (after : Line) : Prop where
  due : after.lsc.limitDue = none
  dau : after.dau = before.dau
  serving : before.lsc.state = .firing ∨ before.lsc.state = .hold →
    after.lsc.state = .rundown ∧ after.lsc.cause = c
  other : ¬(before.lsc.state = .firing ∨ before.lsc.state = .hold) →
    after = { before with lsc := { before.lsc with limitDue := none } }

theorem takeLimit_taken (h : (b.line l).lsc.limitDue = some c) :
    LimitTaken (b.line l) c ((b.takeLimit l).line l) := by
  obtain ⟨hin, hout⟩ := (b.takeLimit_spec l).2 c h
  cases hs : b.inService l with
  | true =>
    rw [hin hs, modLsc_line_self, (b.enterRundown_line l c).1]
    exact ⟨rfl, b.enterRundown_dau l c, fun _ => ⟨rfl, rfl⟩, fun hn => absurd (inService_iff.1 hs) hn⟩
  | false =>
    rw [hout hs, modLsc_line_self]
    exact ⟨rfl, rfl, fun hn => by simp [inService_iff.2 hn] at hs, fun _ => rfl⟩

/-! ## Steps line by line -/

/-- Along the lines, each step touching its own line alone, a line meets its own step as it was before them. -/
theorem foldl_line_of_onlyLine {f : Block → LineId → Block} (hf : ∀ (b : Block) m, b.onlyLine (f b m) m) (b : Block)
    {ms : List LineId} (hnd : ms.Nodup) (hl : l ∈ ms) :
    ∃ b1, b1.line l = b.line l ∧ b.baseKept b1 ∧ (ms.foldl f b).line l = (f b1 l).line l := by
  have hkeep {ms : List LineId} (hl : l ∉ ms) (b : Block) : (ms.foldl f b).line l = b.line l := by
    induction ms generalizing b with
    | nil => rfl
    | cons m ms ih =>
      exact (ih (List.not_mem_of_not_mem_cons hl) _).trans (onlyLine_line (hf b m) (List.ne_of_not_mem_cons hl))
  induction ms generalizing b with
  | nil => simp at hl
  | cons m ms ih =>
    obtain ⟨hm, hms⟩ := List.nodup_cons.1 hnd
    by_cases hlm : l = m
    · subst hlm
      exact ⟨b, rfl, ⟨rfl, rfl, rfl, rfl, rfl⟩, hkeep hm _⟩
    · obtain ⟨b1, hline, ⟨h1, h2, h3, h4, h5⟩, hstep⟩ := ih (f b m) hms ((List.mem_cons.1 hl).resolve_left hlm)
      obtain ⟨⟨g1, g2, g3, g4, g5⟩, -⟩ := hf b m
      exact ⟨b1, hline.trans (onlyLine_line (hf b m) hlm),
        ⟨h1.trans g1, h2.trans g2, h3.trans g3, h4.trans g4, h5.trans g5⟩, hstep⟩

theorem allLines_nodup : allLines.Nodup := by decide

/-- Every waiting rundown taken: a line's own, if one waits (R108). -/
theorem takeLimits_line (b : Block) (l : LineId) :
    ((b.line l).lsc.limitDue = none → b.takeLimits.line l = b.line l) ∧
    ∀ c, (b.line l).lsc.limitDue = some c → LimitTaken (b.line l) c (b.takeLimits.line l) := by
  obtain ⟨b1, hline, -, hstep⟩ := foldl_line_of_onlyLine takeLimit_onlyLine b allLines_nodup (mem_allLines l)
  have htaken : b.takeLimits.line l = (b1.takeLimit l).line l := hstep
  rw [htaken, ← hline]
  exact ⟨fun h => by rw [(b1.takeLimit_spec l).1 h], fun c => takeLimit_taken⟩

/-- Deliveries, and at their end the rundowns they bring, but for those the order puts off (R108). -/
theorem deliver_line (b : Block) (js : List Job) (l : LineId) :
    let x := b.takeLimits.deliverAll js
    (Owner.limitLater l ∈ b.order ∨ (x.line l).lsc.limitDue = none → (b.deliver js).line l = x.line l) ∧
    ∀ c, (x.line l).lsc.limitDue = some c → Owner.limitLater l ∉ b.order →
      LimitTaken (x.line l) c ((b.deliver js).line l) := by
  intro x
  have horder : x.order = b.order := by simp [x]
  obtain ⟨x1, hline, ⟨-, -, -, hx1, -⟩, hstep⟩ :=
    foldl_line_of_onlyLine takeLimitNow_onlyLine x allLines_nodup (mem_allLines l)
  have htaken : (b.deliver js).line l = (x1.takeLimitNow l).line l := hstep
  rw [htaken, ← hline, ← horder, ← hx1]
  refine ⟨fun h => by rw [takeLimitNow_kept h.symm], fun c hc hnow => ?_⟩
  have hnow' : x1.takeLimitNow l = x1.takeLimit l := if_neg fun g => hnow (List.contains_iff_mem.1 g)
  rw [hnow']
  exact takeLimit_taken hc

/-! ## A line that has fallen stays so -/

theorem fell_inService (h : (b.line l).lsc.Fell c) : b.inService l = false := by
  rcases h with ⟨hst | hst, -⟩ <;> simp [inService, hst]

theorem LscsKept.fell (h : LscsKept b t) (hf : (b.line l).lsc.Fell c) : (t.line l).lsc.Fell c := by
  rwa [h l]

theorem onlyLine_fell {m : LineId} (h : b.onlyLine t m) (hm : m ≠ l) (hf : (b.line l).lsc.Fell c) :
    (t.line l).lsc.Fell c := by
  rwa [onlyLine_line h hm.symm]

/-- A waiting rundown finds the line fallen, and has no effect (R13, R108). -/
theorem takeLimit_fell (m : LineId) (hf : (b.line l).lsc.Fell c) : ((b.takeLimit m).line l).lsc.Fell c := by
  by_cases hm : m = l
  · subst hm
    cases hdue : (b.line m).lsc.limitDue with
    | none => rwa [(b.takeLimit_spec m).1 hdue]
    | some d =>
      rw [((b.takeLimit_spec m).2 d hdue).2 (fell_inService hf), modLsc_line_self]
      exact hf
  · exact onlyLine_fell (takeLimit_onlyLine b m) hm hf

theorem takeLimitNow_fell (m : LineId) (hf : (b.line l).lsc.Fell c) : ((b.takeLimitNow m).line l).lsc.Fell c := by
  unfold takeLimitNow
  split
  · exact hf
  · exact takeLimit_fell m hf

theorem deliverLimit_fell (m : LineId) (d : Option RundownCause) (hf : (b.line l).lsc.Fell c) :
    ((b.deliverLimit m d).line l).lsc.Fell c := by
  by_cases hm : m = l
  · subst hm
    unfold deliverLimit
    rw [modLsc_line_self]
    exact hf
  · exact onlyLine_fell (modLsc_onlyLine b m _) hm hf

/-- The line's own second tick may end its rundown, which keeps its cause (R14). -/
theorem lscTick_fell (m : LineId) (hf : (b.line l).lsc.Fell c) : ((b.lscTick m).line l).lsc.Fell c := by
  by_cases hm : m = l
  · subst hm
    have hticked := lscTick_ticked b m
    obtain ⟨hst | hst, hcause⟩ := hf
    · by_cases hburn : (b.line m).lsc.burnout + 1 < (b.lineParams m).burnoutTime
      · rw [hticked.burning hst hburn]
        exact ⟨.inl hst, hcause⟩
      · obtain ⟨hidle, -, hkept⟩ := hticked.burnt hst (not_lt.1 hburn)
        exact ⟨.inr hidle, hkept.trans hcause⟩
    · rw [hticked.resting (.inl hst)]
      exact ⟨.inr hst, hcause⟩
  · exact onlyLine_fell (lscTick_onlyLine b m) hm hf

theorem gfuTick_fell (m : LineId) (hf : (b.line l).lsc.Fell c) : ((b.gfuTick m).line l).lsc.Fell c := by
  by_cases hm : m = l
  · subst hm
    exact ((LscsKept.refl b).gfuTick (fell_inService hf)).fell hf
  · exact onlyLine_fell (gfuTick_onlyLine b m) hm hf

end Block

open Block in
/-- No delivery gives a fallen line another cause, or takes it back to service (R13, R14). -/
theorem Job.act_fell {b : Block} {l : LineId} {c : RundownCause} (j : Job) (hf : (b.line l).lsc.Fell c) :
    ((j.act b).line l).lsc.Fell c := by
  unfold Job.act
  split
  · exact lscTick_fell _ hf
  · exact gfuTick_fell _ hf
  · rwa [(b.turbineTick_kept _ l).2]
  · exact (LscsKept.refl b).gfuClose.fell hf
  · exact (LscsKept.refl b).ccuClose.fell hf
  · exact (LscsKept.refl b).eauClose.fell hf
  · exact deliverLimit_fell _ _ ((LscsKept.refl b).dauClose.fell hf)
  · exact takeLimitNow_fell _ hf
  · exact hf

theorem Job.run_fell {x : Pass} {l : LineId} {c : RundownCause} (j : Job) (hf : (x.block.line l).lsc.Fell c) :
    ((j.run x).block.line l).lsc.Fell c := by
  unfold Job.run
  split
  · exact hf
  · rwa [(cycle_kept x l).1.lsc]
  · exact j.act_fell hf

theorem Pass.takeJobs_fell {x : Pass} {l : LineId} {c : RundownCause} (js : List Job)
    (hf : (x.block.line l).lsc.Fell c) : ((x.takeJobs js).block.line l).lsc.Fell c := by
  induction js generalizing x with
  | nil => exact hf
  | cons j js ih => exact ih (j.run_fell hf)

namespace Block
variable {b : Block} {l : LineId} {c : RundownCause}

/-- The waiting rundowns taken: a line in service whose rundown waits falls, and a fallen one stays so (R108). -/
theorem takeLimits_fell (h : (b.line l).lsc.Falls c) : (b.takeLimits.line l).lsc.Fell c := by
  rcases h with hf | ⟨hs, hdue⟩
  · exact takeLimit_fell .l3 (takeLimit_fell .l2 (takeLimit_fell .l1 hf))
  · exact (((b.takeLimits_line l).2 c hdue).serving hs).imp_left .inl

/-- Deliveries, with the waiting rundowns taken before them, leave the line fallen (R13, R108). -/
theorem deliver_fell (js : List Job) (h : (b.line l).lsc.Falls c) : ((b.deliver js).line l).lsc.Fell c := by
  have hall : ((b.takeLimits.deliverAll js).line l).lsc.Fell c := Pass.takeJobs_fell js (takeLimits_fell h)
  exact takeLimitNow_fell .l3 (takeLimitNow_fell .l2 (takeLimitNow_fell .l1 hall))

theorem runJobs_fell (js : List Job) (h : (b.line l).lsc.Falls c) : ((b.runJobs js).line l).lsc.Fell c :=
  deliver_fell _ h

theorem tickUnset_fell (h : (b.line l).lsc.Falls c) : (b.tickUnset.line l).lsc.Fell c := by
  unfold tickUnset
  exact runJobs_fell _ h

theorem tickTo_fell (x y : Time) (h : (b.line l).lsc.Falls c) : ((b.tickTo x y).line l).lsc.Fell c := by
  unfold tickTo
  exact runJobs_fell _ h

theorem tickEnd_fell (x : Time) (h : (b.line l).lsc.Falls c) : ((b.tickEnd x).line l).lsc.Fell c := by
  unfold tickEnd
  exact runJobs_fell _ h

/-- A second tick, by clock state, is its deliveries on a new clock (R24 to R26). -/
theorem secondTick_fell (h : (b.line l).lsc.Falls c) : (b.secondTick.line l).lsc.Fell c := by
  have hcounted : (b.countUptime.line l).lsc.Falls c := h
  unfold secondTick
  dsimp only
  split
  · exact tickUnset_fell hcounted
  · split
    · exact tickTo_fell _ _ hcounted
    · exact tickEnd_fell _ hcounted

end Block

/-- SECOND_TICK with nothing put off. -/
theorem exec_secondTick_fell {s : State} (order : List Owner) {l : LineId} {c : RundownCause}
    (hlate : s.block.clock.late = []) (h : (s.block.line l).lsc.Falls c) :
    ∃ t, exec (.secondTick order) s = .next t ∧ (t.block.line l).lsc.Fell c := by
  refine ⟨_, exec_secondTick s order, ?_⟩
  rw [State.withBlock_block, s.block.takeLate_of_none hlate]
  exact Block.secondTick_fell (b := { s.block with order := order }) h

end Sys2Proof.Machine
end

section
/-! The minute a DAU counts (R105): the figures after it, and the limits it meets, announced and delivered to the LSC
(R106, R107). -/

namespace Sys2Proof.Machine
open Sys2Proof
namespace Block
variable {b : Block} {l : LineId}

/-! ## The minute counted -/

/-- The limits a minute of an open episode meets, by the figures before it (R106, R107). -/
def minuteLimits (b : Block) (l : LineId) (e : Episode) : LimitFound :=
  { episode := decide ((b.lineParams l).episodeLimit ≤ e.minutes + 1)
    low := decide ((b.line l).dau.used = 3239)
    allowance := decide ((b.line l).dau.used = 3599) }

/-- The figures after the minute, before its limits are announced (R105 to R107). -/
def minuteCounted (b : Block) (l : LineId) (e : Episode) : Block := b.modDau l fun d =>
  { d with used := min 3600 ((b.line l).dau.used + 1)
           episode := some { e with minutes := e.minutes + 1, limit := (b.minuteLimits l e).field e.limit } }

theorem countedMinute_of_open {e : Episode} (he : (b.line l).dau.episode = some e) (hs : b.inService l = true)
    (hused : (b.line l).dau.used ≤ 3600) : b.countedMinute l =
      some ⟨e, e.minutes + 1, min 3600 ((b.line l).dau.used + 1), b.minuteLimits l e⟩ := by
  have hmax : max (b.line l).dau.used (min 3600 ((b.line l).dau.used + 1)) = min 3600 ((b.line l).dau.used + 1) := by
    omega
  have hreached (n : Nat) (hn : n + 1 ≤ 3600) : (decide ((b.line l).dau.used < n + 1) &&
      min 3600 ((b.line l).dau.used + 1) == n + 1) = decide ((b.line l).dau.used = n) := by
    rw [Bool.eq_iff_iff, Bool.and_eq_true, decide_eq_true_iff, decide_eq_true_iff, beq_iff_eq]
    omega
  have hfound : b.limitsFound l (e.minutes + 1) (b.line l).dau.used (min 3600 ((b.line l).dau.used + 1)) =
      b.minuteLimits l e := by
    unfold limitsFound minuteLimits
    rw [← hreached 3239 (by decide), ← hreached 3599 (by decide)]
    rfl
  unfold countedMinute
  simp only [he, hs, if_true, Config.allowance, hmax, hfound]

theorem countedMinute_of_not (h : (b.line l).dau.episode = none ∨ b.inService l = false) :
    b.countedMinute l = none := by
  unfold countedMinute
  rcases h with he | hs
  · rw [he]
  · split
    · rfl
    · simp [hs]

theorem dauMinute_of_open {e : Episode} (he : (b.line l).dau.episode = some e) (hs : b.inService l = true)
    (hused : (b.line l).dau.used ≤ 3600) : b.dauMinute l = (b.minuteCounted l e).limitNotices l (b.minuteLimits l e)
      (e.minutes + 1) (min 3600 ((b.line l).dau.used + 1)) := by
  simp only [dauMinute, countedMinute_of_open he hs hused, minuteCounted]

theorem dauRundown_of_open {e : Episode} (he : (b.line l).dau.episode = some e) (hs : b.inService l = true)
    (hused : (b.line l).dau.used ≤ 3600) (m : MinuteId) (cut : Bool) :
    b.dauRundown l (.minute m cut) = (b.minuteLimits l e).rundown := by
  simp only [dauRundown, countedMinute_of_open he hs hused, Option.bind_some]

/-! ## Its limits announced -/

theorem raiseLine_pendingWith_of_ne {k k' : NoticeKind} (h : k' ≠ k) {d d' : List Byte} {n : Nat}
    (hp : b.pendingWith k' n d') : (b.raiseLine k l d).pendingWith k' n d' := by
  unfold pendingWith
  rwa [raiseLine_notice_of_ne b h]

/-- A limit found is told, and the notices of the others leave it (R106, R107). -/
theorem limitNotices_pendingWith (b : Block) (l : LineId) (f : LimitFound) (minutes used : Nat) :
    (f.episode = true →
      (b.limitNotices l f minutes used).pendingWith .episodeLimit (lineNumber l) [byte minutes]) ∧
    (f.low = true → (b.limitNotices l f minutes used).pendingWith .allowanceLow (lineNumber l) (u16 used)) ∧
    (f.allowance = true →
      (b.limitNotices l f minutes used).pendingWith .allowanceExhausted (lineNumber l) [byte minutes]) ∧
    (f.episode = false → f.low = false → f.allowance = false →
      (b.limitNotices l f minutes used).notices = b.notices) := by
  have hlater {b : Block} {k k' : NoticeKind} (hk : k' ≠ k) (p : Bool) {d d' : List Byte} {n : Nat}
      (hp : b.pendingWith k' n d') : (if p then b.raiseLine k l d else b).pendingWith k' n d' := by
    split
    · exact raiseLine_pendingWith_of_ne hk hp
    · exact hp
  unfold limitNotices
  refine ⟨fun h => hlater (by decide) _ (hlater (by decide) _ ?_), fun h => hlater (by decide) _ ?_, fun h => ?_,
    fun h1 h2 h3 => by simp [h1, h2, h3]⟩ <;>
  · rw [h, if_pos rfl]
    exact raise_pendingWith _ _ _ _

theorem limitNotices_onlyLine (b : Block) (m : LineId) (f : LimitFound) (minutes used : Nat) (l : LineId) :
    b.onlyLine (b.limitNotices m f minutes used) l := by
  simp [onlyLine, baseKept, otherLinesKept, line]

/-- What a counted minute changes: the DAU's record of the line and its notices (R105). -/
theorem dauMinute_counts {e : Episode} (he : (b.line l).dau.episode = some e) (hs : b.inService l = true)
    (hused : (b.line l).dau.used ≤ 3600) :
    (b.dauMinute l).line l = { b.line l with dau := { (b.line l).dau with
      used := min 3600 ((b.line l).dau.used + 1)
      episode := some { e with minutes := e.minutes + 1, limit := (b.minuteLimits l e).field e.limit } } } ∧
    b.onlyLine (b.dauMinute l) l ∧ (b.dauMinute l).rcs = b.rcs := by
  refine ⟨?_, ?_, by simp⟩
  · have hlines (f : LimitFound) (m u : Nat) :
        ((b.minuteCounted l e).limitNotices l f m u).line l = (b.minuteCounted l e).line l := by simp [line]
    rw [dauMinute_of_open he hs hused, hlines, minuteCounted, modDau_line_self]
  · rw [dauMinute_of_open he hs hused]
    exact onlyLine_trans (modDau_onlyLine b l _) (limitNotices_onlyLine _ l _ _ _ l)

/-- The limit reached, by which limits a minute meets (R106, R107). -/
theorem LimitFound.field_eq (f : LimitFound) (old : LimitReached) :
    (f.allowance = true → f.episode = true → f.field old = .both) ∧
    (f.allowance = true → f.episode = false → f.field old = .allowance) ∧
    (f.allowance = false → f.episode = true → f.field old = .episodeLimit) ∧
    (f.allowance = false → f.episode = false → f.field old = old) := by
  refine ⟨?_, ?_, ?_, ?_⟩ <;> intro ha he <;> simp [LimitFound.field, ha, he]

end Block
end Sys2Proof.Machine
end

section
/-! A deviation minute, its limits, and the rundown they bring, taken before or after other rundowns (R105 to R108,
R13). -/

namespace Sys2Proof.Machine
open Sys2Proof

/-- LINE STOP taken before a rundown that waits: its cause is HOST, and no rundown waits any longer (R10, R108). -/
theorem lineStop_before_limit (s : State) (l : LineId) (tag : Byte) (h : s.block.linkIdle = true)
    (hs : s.block.inService l = true) :
    ∃ t, exec (.lineStop tag (byte (lineNumber l))) s = .next t ∧ (t.block.line l).lsc.state = .rundown ∧
      (t.block.line l).lsc.cause = .host ∧ (t.block.line l).lsc.limitDue = none ∧ t.block.clock = s.block.clock := by
  obtain ⟨-, -, -, hservice⟩ := serveLineStop_by_state s.block.awaiting l
  refine ⟨_, exec_lineStop tag h (hservice (inService_iff.1 hs)), ?_⟩
  rw [State.withBlock_block, Block.replied_line, (s.block.awaiting.enterRundown_line l .host).1]
  exact ⟨rfl, rfl, rfl, by simp [Block.replied, Block.awaiting]⟩

/-- FEED-STOP taken on a line in service leaves no rundown waiting there (R17, R108). -/
theorem Block.feedStopTaken_limitDue {b : Block} {l : LineId} (hs : b.inService l = true) :
    (b.feedStopTaken.line l).lsc.limitDue = none := by
  obtain ⟨b1, hline, -, hstep⟩ := Block.foldl_line_of_onlyLine (fun b m => b.feedStopLine_onlyLine m)
    { b with feedStop := true } Block.allLines_nodup (mem_allLines l)
  have hline' : b1.line l = b.line l := hline
  have htaken : b.feedStopTaken.line l = (b1.feedStopLine l).line l := hstep
  have hlsc : b1.feedStopLsc l = b1.enterRundown l .feedstop := by
    unfold Block.feedStopLsc
    rcases inService_iff.1 hs with hst | hst <;> simp only [hline', hst]
  rw [htaken, b1.feedStopLine_eq, Block.raiseLine_line, Block.modGfu_line_self, hlsc,
    (b1.enterRundown_line l .feedstop).1]

/-- FEED_STOP_ASSERT taken before a rundown that waits: its cause is FEEDSTOP (R17, R108). -/
theorem feedStop_before_limit (s : State) (l : LineId) (h : s.block.feedStop = false)
    (hs : s.block.inService l = true) :
    ∃ t, exec .feedStopAssert s = .next t ∧ (t.block.line l).lsc.state = .rundown ∧
      (t.block.line l).lsc.cause = .feedstop ∧ (t.block.line l).lsc.limitDue = none ∧
      t.block.clock = s.block.clock := by
  have hexec : exec .feedStopAssert s =
      .next (s.withBlock (if s.block.feedStop then s.block else s.block.feedStopTaken)) := rfl
  rw [if_neg (by simp [h])] at hexec
  have hl := s.block.feedStopTaken_line l
  have hservice := inService_iff.1 hs
  refine ⟨_, hexec, hl.state.trans ?_, (hl.rundown hservice).1, Block.feedStopTaken_limitDue hs, by simp⟩
  rcases hservice with hst | hst <;> rw [hst] <;> rfl

/-- Settles O22: the minute counted, the rundown taken at a delivery or after it, and the cause that came first
through a second tick. -/
theorem deviationMinuteCountsAgainstAllowance : Obligations.DeviationMinuteCountsAgainstAllowance := by
  unfold Obligations.DeviationMinuteCountsAgainstAllowance
  refine ⟨fun b l e m cut he hs hle => ?minute, fun b l m cut h => ?nothing, fun b l c => ?rundown,
    fun b js l => ?delivered, fun s l c order hlate hdue hs => ?first⟩
  case minute =>
    intro t used atLimit
    obtain ⟨hline, honly, hrcs⟩ := Block.dauMinute_counts he hs hle
    have hnotices := (b.minuteCounted l e).limitNotices_pendingWith l (b.minuteLimits l e) (e.minutes + 1)
      (min 3600 (used + 1))
    rw [← Block.dauMinute_of_open he hs hle] at hnotices
    obtain ⟨hepisode, hlow, hallowance, hnone⟩ := hnotices
    obtain ⟨hboth, hallow, hlimit, hold⟩ := (b.minuteLimits l e).field_eq e.limit
    have hrundown := Block.dauRundown_of_open he hs hle m cut
    simp only [t, hline, honly, hrcs, hrundown, true_and]
    have hat : (b.minuteLimits l e).episode = true ↔ atLimit := decide_eq_true_iff
    have hnat : (b.minuteLimits l e).episode = false ↔ ¬atLimit := decide_eq_false_iff_not
    have hfull : (b.minuteLimits l e).allowance = true ↔ used = 3599 := decide_eq_true_iff
    have hnfull : (b.minuteLimits l e).allowance = false ↔ used ≠ 3599 := decide_eq_false_iff_not
    refine ⟨rfl, ⟨_, rfl, rfl, rfl, rfl, fun hu ha => hboth (hfull.2 hu) (hat.2 ha),
      fun hu ha => hallow (hfull.2 hu) (hnat.2 ha), fun hu ha => hlimit (hnfull.2 hu) (hat.2 ha),
      fun hu ha => hold (hnfull.2 hu) (hnat.2 ha)⟩, fun ha => hepisode (hat.2 ha), fun hu => ?_,
      fun hu => hallowance (hfull.2 hu), fun hu hu' ha => hnone (hnat.2 ha) (decide_eq_false hu') (hnfull.2 hu),
      fun hu => ?_, fun hu ha => ?_, fun hu ha => ?_⟩
    · have htold := hlow (decide_eq_true hu)
      rwa [hu] at htold
    · simp [Block.LimitFound.rundown, hfull.2 hu]
    · simp [Block.LimitFound.rundown, hnfull.2 hu, hat.2 ha]
    · simp [Block.LimitFound.rundown, hnfull.2 hu, hnat.2 ha]
  case nothing =>
    have hnone := Block.countedMinute_of_not h
    exact ⟨by simp only [Block.dauMinute, hnone], by simp only [Block.dauRundown, hnone, Option.bind_none]⟩
  case rundown =>
    refine ⟨fun hs => ?_, fun hst => Block.takeRundown_of_not_inService c (Block.not_inService_of_rundown hst)⟩
    intro t
    have ht : t = b.enterRundown l c := Block.takeRundown_of_inService c hs
    rw [ht, (b.enterRundown_line l c).1, b.enterRundown_dau]
    exact ⟨rfl, rfl, rfl, rfl, (b.enterRundown_reportsKept l c).1, b.enterRundown_onlyLine l c⟩
  case delivered =>
    intro x t
    obtain ⟨hkept, htaken⟩ := b.deliver_line js l
    refine ⟨hkept, fun c hc hnow => ?_⟩
    have hl := htaken c hc hnow
    refine ⟨hl.due, hl.dau, fun hs => hl.serving (inService_iff.1 hs), fun hst => ?_⟩
    have hother : t.line l = _ := hl.other (by simp [x, hst])
    rw [hother]
    exact ⟨rfl, rfl⟩
  case first =>
    intro fell keeps
    have hkeeps {i : Instr} {by_ : RundownCause} (h : ∃ t, exec i s = .next t ∧
        (t.block.line l).lsc.state = .rundown ∧ (t.block.line l).lsc.cause = by_ ∧
        (t.block.line l).lsc.limitDue = none ∧ t.block.clock = s.block.clock) : keeps i by_ := by
      obtain ⟨t, hexec, hst, hcause, hnone, hclock⟩ := h
      obtain ⟨u, hu, hfell⟩ := exec_secondTick_fell order (s := t) (by rw [hclock, hlate])
        (.inl ⟨.inl hst, hcause⟩)
      exact ⟨t, u, hexec, hst, hcause, hnone, hu, hfell⟩
    exact ⟨fun h tag => hkeeps (lineStop_before_limit s l tag h hs), fun h => hkeeps (feedStop_before_limit s l h hs),
      exec_secondTick_fell order hlate (.inr ⟨inService_iff.1 hs, hdue⟩)⟩

end Sys2Proof.Machine
end

section
/-! ALLOWANCE RESTORE: the refusals in their order, and the figures written once the closes put off are taken (R113). -/

namespace Sys2Proof.Machine
open Sys2Proof

/-! ## The request -/

/-- The payload of an ALLOWANCE RESTORE reads back as the host sent it (R191). -/
theorem allowanceRestore_fields (v : Byte) (y u a b c d e : Word16) :
    let p := v :: (wire16 y ++ wire16 u ++ wire16 a ++ wire16 b ++ wire16 c ++ wire16 d ++ wire16 e)
    field p 1 2 = y.toNat ∧ field p 3 2 = u.toNat ∧ field p 5 2 = a.toNat ∧ field p 7 2 = b.toNat ∧
    field p 9 2 = c.toNat ∧ field p 11 2 = d.toNat ∧ field p 13 2 = e.toNat := by
  have hread (v : Byte) (w : Word16) : field (v :: wire16 w) 1 2 = w.toNat := by
    simpa using field_wire16 v w []
  exact ⟨hread v y, hread v u, hread v a, hread v b, hread v c, hread v d, hread v e⟩

/-- ALLOWANCE RESTORE on an idle link is its owner's action, then the reply (R113). -/
theorem exec_allowanceRestore {s : State} {l : LineId} (tag : Byte) {y u a b c d e : Word16} {t : Block} {r : Reply}
    (h : s.block.linkIdle = true) (hserve : s.block.awaiting.serveAllowanceRestore l y.toNat u.toNat
      ⟨a.toNat, b.toNat, c.toNat, d.toNat, e.toNat⟩ = (t, r)) :
    exec (.allowanceRestore tag (byte (lineNumber l)) y u a b c d e) s =
      .next (s.withBlock (t.replied .allowanceRestore tag r)) := by
  refine submitKind_of_linkIdle tag h rfl ?_
  obtain ⟨hy, hu, ha, hb, hc, hd, he⟩ := allowanceRestore_fields (byte (lineNumber l)) y u a b c d e
  unfold Block.serveKind
  dsimp only
  rw [Block.onLine_byte, hy, hu, ha, hb, hc, hd, he, hserve]

namespace Block
variable {b : Block} {l : LineId}

/-! ## The refusals, in their order -/

theorem serveAllowanceRestore_refused {y u : Nat} {p : PerPollutant Nat} {r : Reply}
    (h : b.restoreRefused l y = some r) : b.serveAllowanceRestore l y u p = (b, r) := by
  simp only [serveAllowanceRestore, h]

theorem restoreRefused_unset (h : b.clock.time = none) (y : Nat) :
    b.restoreRefused l y = some (.refused .notReady 1) := by
  simp only [restoreRefused, h]
  rfl

theorem restoreRefused_not_idle {x : Time} (h : b.clock.time = some x) (hst : (b.line l).lsc.state ≠ .idle) (y : Nat) :
    b.restoreRefused l y = some (.refused .wrongState 0) := by
  simp [restoreRefused, h, idle, hst, refuse]

theorem restoreRefused_wrong_year {x : Time} (h : b.clock.time = some x) (hst : (b.line l).lsc.state = .idle) {y : Nat}
    (hy : y ≠ x.year) : b.restoreRefused l y = some (.refused .wrongYear 0) := by
  simp [restoreRefused, h, idle, hst, hy, refuse]

theorem restoreRefused_none {x : Time} (h : b.clock.time = some x) (hst : (b.line l).lsc.state = .idle) :
    b.restoreRefused l x.year = none := by
  simp [restoreRefused, h, idle, hst]

/-! ## The figures written -/

/-- The figures written, and ALLOWANCE_LOW raised where used is that high (R113, R107). -/
def restoredTold (b : Block) (l : LineId) (year used : Nat) (tallies : PerPollutant Nat) : Block :=
  if 3240 ≤ used then (b.restoreFigures l year used tallies).raiseLine .allowanceLow l (u16 used)
  else b.restoreFigures l year used tallies

/-- An accepted ALLOWANCE RESTORE; the clamp of a tally leaves one of two bytes (R113). -/
theorem serveAllowanceRestore_accepted {y used : Nat} {p : PerPollutant Nat} (h : b.restoreRefused l y = none)
    (hp : ∀ x, p.get x ≤ 65535) : b.serveAllowanceRestore l y used p =
      (b.takeLate.restoredTold l y (min used 3600) p,
        .done (u16 (min used 3600) ++ p.toList.flatMap u16 ++ u16 y)) := by
  have hclamp : (PerPollutant.tabulate fun x => min (p.get x) Config.max16) = p := by
    have hmin : (fun x => min (p.get x) Config.max16) = p.get := funext fun x => min_eq_left (hp x)
    rw [hmin]
    rfl
  simp only [serveAllowanceRestore, h, hclamp]
  rfl

/-- The line as an accepted ALLOWANCE RESTORE leaves it (R113, R80). -/
theorem restoredTold_line (b : Block) (l : LineId) (y u : Nat) (p : PerPollutant Nat) :
    (b.restoredTold l y u p).line l = { b.line l with
      dau := { (b.line l).dau with used := u, restored := true, restoredYear := some y }
      eau := { (b.line l).eau with tallies := p } } := by
  have hfigures : (b.restoreFigures l y u p).line l = { b.line l with
      dau := { (b.line l).dau with used := u, restored := true, restoredYear := some y }
      eau := { (b.line l).eau with tallies := p } } := by
    simp [restoreFigures]
  unfold restoredTold
  split
  · rw [raiseLine_line, hfigures]
  · exact hfigures

theorem restoredTold_onlyLine (b : Block) (l : LineId) (y u : Nat) (p : PerPollutant Nat) :
    b.onlyLine (b.restoredTold l y u p) l := by
  have hfigures : b.onlyLine (b.restoreFigures l y u p) l :=
    onlyLine_trans (modDau_onlyLine b l _) (modLine_onlyLine _ l _)
  unfold restoredTold
  split
  · exact onlyLine_trans hfigures (raiseLine_onlyLine _ _ _ _ _)
  · exact hfigures

theorem restoredTold_notices (b : Block) (l : LineId) (y u : Nat) (p : PerPollutant Nat) :
    (3240 ≤ u → (b.restoredTold l y u p).pendingWith .allowanceLow (lineNumber l) (u16 u)) ∧
    (u < 3240 → (b.restoredTold l y u p).notices = b.notices) := by
  unfold restoredTold
  refine ⟨fun h => ?_, fun h => ?_⟩
  · rw [if_pos h]
    exact raise_pendingWith _ _ _ _
  · rw [if_neg h.not_ge]
    rfl

end Block

theorem allowanceRestored_of_year {b : Block} {l : LineId} {x : Time} (hx : b.clock.time = some x)
    (hrestored : (b.line l).dau.restored = true) (hyear : (b.line l).dau.restoredYear = some x.year) :
    b.allowanceRestored l = true := by
  simp [Block.allowanceRestored, hx, hrestored, hyear]

/-- An accepted ALLOWANCE RESTORE on an idle link: the closes put off taken, the figures written and told, and the
reply placed (R113). -/
theorem exec_allowanceRestore_accepted {s : State} {l : LineId} (tag : Byte) {y : Word16} (u a b c d e : Word16)
    {x : Time} (h : s.block.linkIdle = true) (hx : s.block.clock.time = some x)
    (hst : (s.block.line l).lsc.state = .idle) (hy : y.toNat = x.year) :
    exec (.allowanceRestore tag (byte (lineNumber l)) y u a b c d e) s = .next (s.withBlock
      ((s.block.awaiting.takeLate.restoredTold l x.year (min u.toNat 3600)
        ⟨a.toNat, b.toNat, c.toNat, d.toNat, e.toNat⟩).replied .allowanceRestore tag
          (.done (u16 (min u.toNat 3600) ++ u16 a.toNat ++ u16 b.toNat ++ u16 c.toNat ++ u16 d.toNat ++
            u16 e.toNat ++ u16 x.year)))) := by
  have hbound (w : Word16) : w.toNat ≤ 65535 := Nat.le_of_lt_succ w.isLt
  have hnone : s.block.awaiting.restoreRefused l y.toNat = none :=
    hy ▸ Block.restoreRefused_none (b := s.block.awaiting) hx hst
  have hexec := exec_allowanceRestore tag h (Block.serveAllowanceRestore_accepted (used := u.toNat)
    (p := ⟨a.toNat, b.toNat, c.toNat, d.toNat, e.toNat⟩) hnone fun q => by cases q <;> exact hbound _)
  rw [hy] at hexec
  exact hexec

/-- Settles O23: the refusals change nothing, and the accepted figures are written over the closes taken first. -/
theorem allowanceRestoreWritesFigures : Obligations.AllowanceRestoreWritesFigures := by
  unfold Obligations.AllowanceRestoreWritesFigures
  intro s tag l y u a b c d e h i
  have refusal {k : RefusalCode} {n : Nat} (hr : s.block.restoreRefused l y.toNat = some (.refused k n)) :
      exec i s = .next (s.withBlock (s.block.repliedRefused .allowanceRestore tag k n)) :=
    answered_of_unchanged h (exec_allowanceRestore tag h
      (Block.serveAllowanceRestore_refused (b := s.block.awaiting) hr))
  refine ⟨fun hx => refusal (Block.restoreRefused_unset hx _),
    fun x hx hst => refusal (Block.restoreRefused_not_idle hx hst _),
    fun x hx hst hy => refusal (Block.restoreRefused_wrong_year hx hst hy), fun x hx hst hy => ?accepted⟩
  refine ⟨_, exec_allowanceRestore_accepted tag u a b c d e h hx hst hy, ?_⟩
  rw [State.withBlock_block]
  generalize PerPollutant.mk a.toNat b.toNat c.toNat d.toNat e.toNat = p
  have hline := s.block.awaiting.takeLate.restoredTold_line l x.year (min u.toNat 3600) p
  have honly := s.block.awaiting.takeLate.restoredTold_onlyLine l x.year (min u.toNat 3600) p
  obtain ⟨htold, hquiet⟩ := s.block.awaiting.takeLate.restoredTold_notices l x.year (min u.toNat 3600) p
  generalize s.block.awaiting.takeLate.restoredTold l x.year (min u.toNat 3600) p = t at hline honly htold hquiet
  have hclock : t.clock = { s.block.clock with late := [] } := by
    obtain ⟨⟨-, -, -, -, hkept⟩, -⟩ := honly
    simp [hkept, Block.awaiting]
  have hlike := (Block.Alike.awaiting s.block).takeLate
  rw [s.block.takeLate_eq_deliverAll] at hlike
  simp only [Block.replied_line, hline, true_and]
  refine ⟨?restored, ⟨hclock, ?others, ?causes, ?closed⟩, fun hlow => htold (by omega), fun hnone => ?undelayed,
    Block.replied_lastReply _ _ _ _⟩
  case restored =>
    refine allowanceRestored_of_year (x := x) ((congrArg Clock.time hclock).trans hx) ?_ ?_ <;>
      rw [Block.replied_line, hline]
  case others =>
    obtain ⟨-, -, -, -, -, hothers⟩ := honly
    intro m hm
    obtain ⟨hm1, hm2⟩ := hothers m hm
    obtain ⟨-, -, -, -, hblu, -⟩ := hlike.fields
    exact ⟨hm1.trans (hlike.line m), hm2.trans (by rw [hblu])⟩
  case causes => rw [hlike.line]
  case closed => rw [hlike.line]
  case undelayed =>
    rw [s.block.awaiting.takeLate_of_none hnone] at hquiet honly ⊢
    exact ⟨rfl, rfl, fun hlow => hquiet (by omega), honly⟩

end Sys2Proof.Machine
end

section
/-! One step: the command at the front of the queue, or the part idling (R108, R193). -/

namespace Sys2Proof.Machine
open Sys2Proof

theorem step_idle (b : Block) : step ⟨[], b⟩ = .next ⟨[], b.idleStep⟩ := rfl

namespace Block
variable {b : Block}

theorem takeLimits_of_none (h : ∀ l, (b.line l).lsc.limitDue = none) : b.takeLimits = b := by
  have hnone (l : LineId) : b.takeLimit l = b := (b.takeLimit_spec l).1 (h l)
  simp only [takeLimits, allLines, List.foldl, hnone]

theorem idleStep_of_none_late (h : b.clock.late = []) : b.idleStep = b.takeLimits.sendByte := by
  rw [idleStep, b.takeLate_of_none h]

theorem sendByte_line (b : Block) (l : LineId) : b.sendByte.line l = b.line l := by
  unfold sendByte
  split <;> rfl

end Block

/-- Settles O1: the two forms of a step, and the idle step with and without a rundown that waits. -/
theorem stepTakesFrontCommand : Obligations.StepTakesFrontCommand := by
  unfold Obligations.StepTakesFrontCommand
  refine ⟨fun c s => rfl, fun b hlate => ?late, fun b hlate hdue => ?idle, fun b l c hlate hdue => ?limit⟩
  case late =>
    rw [step_idle, step_idle, Block.idleStep, Block.idleStep, b.takeLate_eq_deliverAll,
      Block.takeLate_of_none _ (by simp)]
  case idle =>
    have hidle : step ⟨[], b⟩ = .next ⟨[], b.sendByte⟩ := by
      rw [step_idle, Block.idleStep_of_none_late hlate, Block.takeLimits_of_none hdue]
    rw [hidle]
    refine ⟨fun hoff => ?_, fun m ms hon hout => ⟨fun hmore => ?_, fun hlast => ?_⟩⟩
    · simp [Block.sendByte, hoff]
    · simp [Block.sendByte, hon, hout, hmore]
    · simp [Block.sendByte, hout, hlast.not_gt]
  case limit =>
    have hl := (b.takeLimits_line l).2 c hdue
    refine ⟨_, step_idle b, rfl, ?_⟩
    dsimp only
    rw [Block.idleStep_of_none_late hlate, Block.sendByte_line]
    exact ⟨hl.due, fun hs => hl.serving (inService_iff.1 hs), fun hs =>
      hl.other fun hst => by simp [inService_iff.2 hst] at hs⟩

end Sys2Proof.Machine
end

section
/-! The rounds in which the steam above the lower bounds is shared among the firing lines (R127, R128). -/

namespace Sys2Proof.Machine
open Sys2Proof

/-! ## What a line receives of a list of shares -/

theorem received_cons (s : Share) (ss : List Share) (l : LineId) :
    received (s :: ss) l = if s.1 = l then s.2 else received ss l := by
  by_cases h : s.1 = l <;> simp [received, h]

theorem received_of_not_mem {ss : List Share} {l : LineId} (h : l ∉ ss.map Prod.fst) : received ss l = 0 := by
  induction ss with
  | nil => rfl
  | cons s ss ih =>
    rw [List.map_cons, List.mem_cons, not_or] at h
    rw [received_cons, if_neg (Ne.symm h.1), ih h.2]

theorem received_of_mem {ss : List Share} (hnd : (ss.map Prod.fst).Nodup) {l : LineId} {a : Nat} (h : (l, a) ∈ ss) :
    received ss l = a := by
  induction ss with
  | nil => exact absurd h List.not_mem_nil
  | cons s ss ih =>
    rw [List.map_cons, List.nodup_cons] at hnd
    rw [received_cons]
    rcases List.mem_cons.1 h with rfl | hmem
    · exact if_pos rfl
    · rw [if_neg fun (hs : s.1 = l) => hnd.1 (hs ▸ List.mem_map_of_mem hmem), ih hnd.2 hmem]

theorem received_le_sum (ss : List Share) (l : LineId) : received ss l ≤ (ss.map Prod.snd).sum := by
  induction ss with
  | nil => exact le_rfl
  | cons s ss ih =>
    rw [received_cons, List.map_cons, List.sum_cons]
    split <;> omega

theorem received_append_of_not_mem {ss ts : List Share} {l : LineId} (h : l ∉ ss.map Prod.fst) :
    received (ss ++ ts) l = received ts l := by
  induction ss with
  | nil => rfl
  | cons s ss ih =>
    rw [List.map_cons, List.mem_cons, not_or] at h
    rw [List.cons_append, received_cons, if_neg (Ne.symm h.1), ih h.2]

/-- What the three lines receive is all that is shared. -/
theorem received_allLines {ss : List Share} (hnd : (ss.map Prod.fst).Nodup) :
    received ss .l1 + received ss .l2 + received ss .l3 = (ss.map Prod.snd).sum := by
  induction ss with
  | nil => rfl
  | cons s ss ih =>
    rw [List.map_cons, List.nodup_cons] at hnd
    have hrest := ih hnd.2
    have hnone := received_of_not_mem hnd.1
    obtain ⟨l, a⟩ := s
    cases l <;> simp only [received_cons, List.map_cons, List.sum_cons, reduceCtorEq, if_true, if_false] <;>
      simp only at hnone <;> omega

/-! ## The leftover (R128, step 3) -/

@[simp] theorem giveLeftover_lines (n : Nat) (ss : List Share) :
    (giveLeftover n ss).map Prod.fst = ss.map Prod.fst := by
  induction n, ss using giveLeftover.induct with
  | case1 => simp [giveLeftover]
  | case2 => simp [giveLeftover]
  | case3 n l a ss ih => simp [giveLeftover, ih]

/-- A leftover of at most one unit for each line is given out whole. -/
theorem giveLeftover_sum {n : Nat} {ss : List Share} (h : n ≤ ss.length) :
    ((giveLeftover n ss).map Prod.snd).sum = (ss.map Prod.snd).sum + n := by
  induction n, ss using giveLeftover.induct with
  | case1 n => simpa [giveLeftover] using (Nat.le_zero.1 h).symm
  | case2 => simp [giveLeftover]
  | case3 n l a ss ih =>
    have hrest := ih (Nat.le_of_succ_le_succ h)
    simp only [giveLeftover, List.map_cons, List.sum_cons]
    omega

/-- A line receives one unit of the leftover where fewer lines than units stand before it. -/
theorem mem_giveLeftover (n : Nat) (ss ts : List Share) (l : LineId) (a : Nat) :
    (l, a + if ss.length < n then 1 else 0) ∈ giveLeftover n (ss ++ (l, a) :: ts) := by
  induction ss generalizing n with
  | nil => cases n <;> simp [giveLeftover]
  | cons s ss ih =>
    cases n with
    | zero => simp [giveLeftover]
    | succ n => simpa [giveLeftover] using .inr (ih n)

/-! ## A round (R128, steps 1 and 2) -/

/-- The sum of the lines' weights. -/
def weightOf (fs : List FiringLine) : Nat := (fs.map FiringLine.weight).sum

/-- The lines that leave in a round of the extra X: those whose share is at or above their headroom. -/
def leavers (x : Nat) (fs : List FiringLine) : List FiringLine :=
  fs.filter fun f => decide (f.headroom ≤ shareOf x (weightOf fs) f)

/-- The lines that remain after a round of the extra X. -/
def stayers (x : Nat) (fs : List FiringLine) : List FiringLine :=
  fs.filter fun f => !decide (f.headroom ≤ shareOf x (weightOf fs) f)

/-- The shares of a round in which no line leaves. -/
def sharesOf (x : Nat) (fs : List FiringLine) : List Share := fs.map fun f => (f.line, shareOf x (weightOf fs) f)

theorem sharesOf_snd (x : Nat) (fs : List FiringLine) :
    (sharesOf x fs).map Prod.snd = fs.map (shareOf x (weightOf fs)) := List.map_map

theorem shareRounds_nil (n x : Nat) : shareRounds n x [] = [] := by cases n <;> rfl

theorem shareRounds_last {x : Nat} {fs : List FiringLine} (n : Nat) (h : leavers x fs = []) :
    shareRounds (n + 1) x fs = giveLeftover (x - (fs.map (shareOf x (weightOf fs))).sum) (sharesOf x fs) := by
  rw [← sharesOf_snd]
  cases fs with
  | nil => cases x <;> rfl
  | cons f fs => exact if_pos h

theorem shareRounds_leave {x : Nat} {fs : List FiringLine} (n : Nat) (h : leavers x fs ≠ []) :
    shareRounds (n + 1) x fs = (leavers x fs).map (fun f => (f.line, f.headroom)) ++
      shareRounds n (x - ((leavers x fs).map FiringLine.headroom).sum) (stayers x fs) := by
  cases fs with
  | nil => exact absurd rfl h
  | cons f fs => exact if_neg h

theorem round_perm (x : Nat) (fs : List FiringLine) : (leavers x fs ++ stayers x fs).Perm fs :=
  List.filter_append_perm _ fs

theorem round_sum (x : Nat) (fs : List FiringLine) (g : FiringLine → Nat) :
    ((leavers x fs).map g).sum + ((stayers x fs).map g).sum = (fs.map g).sum := by
  rw [← List.sum_append, ← List.map_append, ((round_perm x fs).map g).sum_eq]

theorem mem_leavers_or_stayers {x : Nat} {fs : List FiringLine} {f : FiringLine} (h : f ∈ fs) :
    f ∈ leavers x fs ∨ f ∈ stayers x fs := List.mem_append.1 ((round_perm x fs).mem_iff.2 h)

theorem stayers_length {n x : Nat} {fs : List FiringLine} (hleave : leavers x fs ≠ []) (h : fs.length ≤ n + 1) :
    (stayers x fs).length ≤ n := by
  have hall := (round_perm x fs).length_eq
  have hpos := List.length_pos_iff.2 hleave
  rw [List.length_append] at hall
  omega

/-- Each share is the line's part of X rounded down, so that together they come short of X by less than a unit for
each line. -/
theorem shares_between (x w : Nat) (hw : 0 < w) (fs : List FiringLine) :
    (fs.map (shareOf x w)).sum * w ≤ x * weightOf fs ∧
    x * weightOf fs ≤ ((fs.map (shareOf x w)).sum + fs.length) * w := by
  induction fs with
  | nil => simp [weightOf]
  | cons f fs ih =>
    have hdown : shareOf x w f * w ≤ x * f.weight := Nat.div_mul_le_self _ _
    have hup : x * f.weight ≤ (shareOf x w f + 1) * w := (Nat.lt_div_mul_add hw).le.trans_eq (Nat.succ_mul _ _).symm
    simp only [weightOf, List.map_cons, List.sum_cons, List.length_cons] at ih ⊢
    constructor <;> nlinarith

theorem weightOf_pos {fs : List FiringLine} (hfs : fs ≠ []) (hw : ∀ f ∈ fs, 1 ≤ f.weight) : 0 < weightOf fs := by
  obtain ⟨f, hf⟩ := List.exists_mem_of_ne_nil fs hfs
  exact (hw f hf).trans (List.single_le_sum (by simp) _ (List.mem_map_of_mem hf))

/-- The shares of X do not exceed it, and the leftover is at most a unit for each line. -/
theorem sum_shareOf {x : Nat} {fs : List FiringLine} (hfs : fs ≠ []) (hw : ∀ f ∈ fs, 1 ≤ f.weight) :
    (fs.map (shareOf x (weightOf fs))).sum ≤ x ∧ x ≤ (fs.map (shareOf x (weightOf fs))).sum + fs.length := by
  have hpos := weightOf_pos hfs hw
  obtain ⟨hdown, hup⟩ := shares_between x _ hpos fs
  exact ⟨Nat.le_of_mul_le_mul_right hdown hpos, Nat.le_of_mul_le_mul_right hup hpos⟩

/-- The headroom of the lines that leave does not exceed the extra. -/
theorem leavers_headroom_le {x : Nat} {fs : List FiringLine} (hw : ∀ f ∈ fs, 1 ≤ f.weight) :
    ((leavers x fs).map FiringLine.headroom).sum ≤ x := by
  by_cases hfs : fs = []
  · subst hfs
    exact Nat.zero_le x
  · have hround := round_sum x fs (shareOf x (weightOf fs))
    have hleft : ((leavers x fs).map FiringLine.headroom).sum ≤ ((leavers x fs).map (shareOf x (weightOf fs))).sum :=
      List.sum_le_sum fun f hf => by simpa using (List.mem_filter.1 hf).2
    have hall := (sum_shareOf (x := x) hfs hw).1
    omega

theorem shareOf_lt_headroom {x : Nat} {fs : List FiringLine} (h : leavers x fs = []) {f : FiringLine} (hf : f ∈ fs) :
    shareOf x (weightOf fs) f < f.headroom := by
  simpa using List.filter_eq_nil_iff.1 h f hf

theorem stayers_weight {x : Nat} {fs : List FiringLine} (hw : ∀ f ∈ fs, 1 ≤ f.weight) :
    ∀ f ∈ stayers x fs, 1 ≤ f.weight := fun f hf => hw f (List.mem_of_mem_filter hf)

/-! ## All the rounds -/

/-- Every line has one share. -/
theorem shareRounds_lines {n x : Nat} {fs : List FiringLine} (hn : fs.length ≤ n) :
    ((shareRounds n x fs).map Prod.fst).Perm (fs.map FiringLine.line) := by
  induction n generalizing x fs with
  | zero => rw [List.length_eq_zero_iff.1 (Nat.le_zero.1 hn), shareRounds_nil]; exact .refl _
  | succ n ih =>
    by_cases hleave : leavers x fs = []
    · simp [shareRounds_last n hleave, sharesOf, Function.comp_def]
    · have hround := (round_perm x fs).map FiringLine.line
      rw [List.map_append] at hround
      simpa [shareRounds_leave n hleave, Function.comp_def] using
        ((ih (stayers_length hleave hn)).append_left _).trans hround

/-- The extra is shared whole, where the headroom has room for it. -/
theorem shareRounds_sum {n x : Nat} {fs : List FiringLine} (hn : fs.length ≤ n) (hw : ∀ f ∈ fs, 1 ≤ f.weight)
    (hx : x ≤ (fs.map FiringLine.headroom).sum) : ((shareRounds n x fs).map Prod.snd).sum = x := by
  induction n generalizing x fs with
  | zero =>
    rw [List.length_eq_zero_iff.1 (Nat.le_zero.1 hn)] at hx ⊢
    exact (Nat.le_zero.1 hx).symm
  | succ n ih =>
    by_cases hleave : leavers x fs = []
    · by_cases hfs : fs = []
      · subst hfs
        exact (Nat.le_zero.1 hx).symm
      · have hshares := sum_shareOf (x := x) hfs hw
        have hlength : (sharesOf x fs).length = fs.length := List.length_map _
        rw [shareRounds_last n hleave, giveLeftover_sum (by omega), sharesOf_snd]
        omega
    · have hround := round_sum x fs FiringLine.headroom
      have hleft := leavers_headroom_le (x := x) hw
      have hrest := ih (x := x - ((leavers x fs).map FiringLine.headroom).sum) (stayers_length hleave hn)
        (stayers_weight hw) (by omega)
      rw [shareRounds_leave n hleave, List.map_append, List.sum_append, hrest, List.map_map]
      exact Nat.add_sub_cancel' hleft

/-- Where no line leaves each receives its share, and of the leftover 1 unit in line order. -/
theorem mem_shareRounds_last (n : Nat) {x : Nat} {gs hs : List FiringLine} {f : FiringLine}
    (h : leavers x (gs ++ f :: hs) = []) :
    (f.line, shareOf x (weightOf (gs ++ f :: hs)) f +
      if gs.length < x - ((gs ++ f :: hs).map (shareOf x (weightOf (gs ++ f :: hs)))).sum then 1 else 0) ∈
      shareRounds (n + 1) x (gs ++ f :: hs) := by
  have hmem := mem_giveLeftover (x - ((gs ++ f :: hs).map (shareOf x (weightOf (gs ++ f :: hs)))).sum)
    (gs.map fun g => (g.line, shareOf x (weightOf (gs ++ f :: hs)) g))
    (hs.map fun g => (g.line, shareOf x (weightOf (gs ++ f :: hs)) g)) f.line (shareOf x (weightOf (gs ++ f :: hs)) f)
  rwa [List.length_map, ← List.map_cons (f := fun g => (g.line, shareOf x (weightOf (gs ++ f :: hs)) g)),
    ← List.map_append, ← sharesOf, ← shareRounds_last n h] at hmem

/-- No line receives more than its headroom. -/
theorem shareRounds_le_headroom {n x : Nat} {fs : List FiringLine} (hn : fs.length ≤ n) {f : FiringLine} (hf : f ∈ fs) :
    ∃ a ≤ f.headroom, (f.line, a) ∈ shareRounds n x fs := by
  induction n generalizing x fs with
  | zero => exact absurd hf (List.length_eq_zero_iff.1 (Nat.le_zero.1 hn) ▸ List.not_mem_nil)
  | succ n ih =>
    by_cases hleave : leavers x fs = []
    · obtain ⟨gs, hs, rfl⟩ := List.append_of_mem hf
      have hshare := shareOf_lt_headroom hleave hf
      exact ⟨_, by split <;> omega, mem_shareRounds_last n hleave⟩
    · rw [shareRounds_leave n hleave]
      rcases mem_leavers_or_stayers (x := x) hf with h | h
      · exact ⟨_, le_rfl, List.mem_append_left _ (List.mem_map_of_mem h)⟩
      · obtain ⟨a, ha, hmem⟩ := ih (stayers_length hleave hn) h
        exact ⟨a, ha, List.mem_append_right _ hmem⟩

theorem shareRounds_nodup {n x : Nat} {fs : List FiringLine} (hnd : (fs.map FiringLine.line).Nodup)
    (hn : fs.length ≤ n) : ((shareRounds n x fs).map Prod.fst).Nodup := (shareRounds_lines hn).nodup_iff.2 hnd

/-- What the lines receive is all that the rounds share. -/
theorem sum_received {n x : Nat} {fs : List FiringLine} (hnd : (fs.map FiringLine.line).Nodup) (hn : fs.length ≤ n) :
    (fs.map fun f => received (shareRounds n x fs) f.line).sum = ((shareRounds n x fs).map Prod.snd).sum := by
  have hread : (shareRounds n x fs).map (fun s => received (shareRounds n x fs) s.1) =
      (shareRounds n x fs).map Prod.snd :=
    List.map_congr_left fun s hs => received_of_mem (shareRounds_nodup hnd hn) hs
  have hperm := (shareRounds_lines (x := x) hn).map (received (shareRounds n x fs))
  rw [List.map_map, List.map_map] at hperm
  rw [← hread]
  exact hperm.sum_eq.symm

/-- As many rounds as lines suffice. -/
theorem shareRounds_enough {n m x : Nat} {fs : List FiringLine} (hn : fs.length ≤ n) (hm : fs.length ≤ m) :
    shareRounds n x fs = shareRounds m x fs := by
  induction n generalizing m x fs with
  | zero => rw [List.length_eq_zero_iff.1 (Nat.le_zero.1 hn), shareRounds_nil, shareRounds_nil]
  | succ n ih =>
    cases m with
    | zero => rw [List.length_eq_zero_iff.1 (Nat.le_zero.1 hm), shareRounds_nil, shareRounds_nil]
    | succ m =>
      by_cases hleave : leavers x fs = []
      · rw [shareRounds_last n hleave, shareRounds_last m hleave]
      · rw [shareRounds_leave n hleave, shareRounds_leave m hleave,
          ih (stayers_length hleave hn) (stayers_length hleave hm)]

end Sys2Proof.Machine
end

section
/-! The allocations: their sum, their bounds, and the rounds that form them (R127, R128). -/

namespace Sys2Proof.Machine
open Sys2Proof

/-! ## The three cases of an allocation (R127) -/

/-- The sum of the lower bounds. -/
def lowerSum (fs : List FiringLine) : Nat := (fs.map FiringLine.lo).sum

/-- The sum of the upper bounds. -/
def upperSum (fs : List FiringLine) : Nat := (fs.map FiringLine.hi).sum

theorem allocate_of_le {fs : List FiringLine} {q : Nat} (h : q ≤ lowerSum fs) (f : FiringLine) :
    allocate fs q f = f.lo := if_pos h

theorem allocate_of_ge {fs : List FiringLine} {q : Nat} (hlo : lowerSum fs < q) (hhi : upperSum fs ≤ q)
    (f : FiringLine) : allocate fs q f = f.hi := (if_neg hlo.not_ge).trans (if_pos hhi)

section
variable {fs : List FiringLine} (hnd : (fs.map FiringLine.line).Nodup) (hok : ∀ f ∈ fs, f.lo ≤ f.hi ∧ 1 ≤ f.weight)
include hok

theorem headroom_add_lo {f : FiringLine} (hf : f ∈ fs) : f.lo + f.headroom = f.hi := Nat.add_sub_cancel' (hok f hf).1

theorem lowerSum_add_headroom : lowerSum fs + (fs.map FiringLine.headroom).sum = upperSum fs := by
  rw [lowerSum, upperSum, ← List.sum_map_add]
  exact congrArg List.sum (List.map_congr_left fun f hf => headroom_add_lo hok hf)

/-- Between the sums a line receives its part of the extra on top of its lower bound. -/
theorem allocate_of_between {q n : Nat} (hn : fs.length ≤ n) (hlo : lowerSum fs ≤ q) (hhi : q < upperSum fs)
    (f : FiringLine) : allocate fs q f = f.lo + received (shareRounds n (q - lowerSum fs) fs) f.line := by
  rcases hlo.eq_or_lt with rfl | hlt
  · have hzero := received_le_sum (shareRounds n 0 fs) f.line
    rw [shareRounds_sum hn (fun f hf => (hok f hf).2) (Nat.zero_le _), Nat.le_zero] at hzero
    rw [allocate_of_le le_rfl, Nat.sub_self, hzero]
    rfl
  · rw [shareRounds_enough hn (Nat.le_succ _)]
    exact (if_neg hlt.not_ge).trans (if_neg hhi.not_ge)

include hnd

theorem allocate_sum (q : Nat) : (fs.map (allocate fs q)).sum = max (lowerSum fs) (min q (upperSum fs)) := by
  have hsums := lowerSum_add_headroom hok
  by_cases hlo : q ≤ lowerSum fs
  · rw [List.map_congr_left fun f _ => allocate_of_le hlo f, ← lowerSum]
    omega
  · by_cases hhi : upperSum fs ≤ q
    · rw [List.map_congr_left fun f _ => allocate_of_ge (not_le.1 hlo) hhi f, ← upperSum]
      omega
    · rw [List.map_congr_left fun f _ => allocate_of_between hok le_rfl (le_of_not_ge hlo) (not_le.1 hhi) f,
        List.sum_map_add, ← lowerSum, sum_received hnd le_rfl,
        shareRounds_sum le_rfl (fun f hf => (hok f hf).2) (by omega)]
      omega

theorem allocate_mem (q : Nat) {f : FiringLine} (hf : f ∈ fs) : f.lo ≤ allocate fs q f ∧ allocate fs q f ≤ f.hi := by
  have hbounds := (hok f hf).1
  by_cases hlo : q ≤ lowerSum fs
  · rw [allocate_of_le hlo]
    exact ⟨le_rfl, hbounds⟩
  · by_cases hhi : upperSum fs ≤ q
    · rw [allocate_of_ge (not_le.1 hlo) hhi]
      exact ⟨hbounds, le_rfl⟩
    · obtain ⟨a, ha, hmem⟩ := shareRounds_le_headroom (x := q - lowerSum fs) le_rfl hf
      have hroom := headroom_add_lo hok hf
      rw [allocate_of_between hok le_rfl (le_of_not_ge hlo) (not_le.1 hhi),
        received_of_mem (shareRounds_nodup hnd le_rfl) hmem]
      omega

/-! ## The rounds (R128) -/

section
variable {q : Nat} (hlo : lowerSum fs < q) (hhi : q < upperSum fs)
include hlo hhi

theorem allocate_leaver {f : FiringLine} (hf : f ∈ leavers (q - lowerSum fs) fs) : allocate fs q f = f.hi := by
  have hmem : (f.line, f.headroom) ∈ shareRounds (fs.length + 1) (q - lowerSum fs) fs := by
    rw [shareRounds_leave _ (List.ne_nil_of_mem hf)]
    exact List.mem_append_left _ (List.mem_map_of_mem hf)
  rw [allocate_of_between hok (Nat.le_succ _) hlo.le hhi,
    received_of_mem (shareRounds_nodup hnd (Nat.le_succ _)) hmem, headroom_add_lo hok (List.mem_of_mem_filter hf)]

theorem allocate_stayer (hleave : leavers (q - lowerSum fs) fs ≠ []) {f : FiringLine}
    (hf : f ∈ stayers (q - lowerSum fs) fs) :
    allocate fs q f =
      allocate (stayers (q - lowerSum fs) fs) (q - upperSum (leavers (q - lowerSum fs) fs)) f := by
  have hlower := round_sum (q - lowerSum fs) fs FiringLine.lo
  have hupper := round_sum (q - lowerSum fs) fs FiringLine.hi
  have hfit := leavers_headroom_le (x := q - lowerSum fs) fun f hf => (hok f hf).2
  have hleft := lowerSum_add_headroom (fs := leavers (q - lowerSum fs) fs) fun f hf =>
    hok f (List.mem_of_mem_filter hf)
  have hnone : f.line ∉ ((leavers (q - lowerSum fs) fs).map fun g => (g.line, g.headroom)).map Prod.fst := by
    have hsplit := ((round_perm (q - lowerSum fs) fs).map FiringLine.line).nodup_iff.2 hnd
    rw [List.map_append] at hsplit
    rw [List.map_map]
    exact fun h => (List.disjoint_of_nodup_append hsplit) h (List.mem_map_of_mem hf)
  rw [allocate_of_between hok (Nat.le_succ _) hlo.le hhi, shareRounds_leave _ hleave, received_append_of_not_mem hnone]
  generalize hl : leavers (q - lowerSum fs) fs = left at *
  generalize hs : stayers (q - lowerSum fs) fs = stay at *
  change lowerSum left + lowerSum stay = lowerSum fs at hlower
  change upperSum left + upperSum stay = upperSum fs at hupper
  have hextra : q - lowerSum fs - (left.map FiringLine.headroom).sum = q - upperSum left - lowerSum stay := by omega
  rw [hextra, ← allocate_of_between (n := fs.length) (fun f hf => hok f ?_) ?_ (by omega) (by omega)]
  · subst hs
    exact List.length_filter_le _ _
  · subst hs
    exact List.mem_of_mem_filter hf

theorem allocate_last {gs hs : List FiringLine} {f : FiringLine} (hfs : fs = gs ++ f :: hs)
    (hstay : leavers (q - lowerSum fs) fs = []) :
    allocate fs q f = f.lo + shareOf (q - lowerSum fs) (weightOf fs) f +
      if gs.length < q - lowerSum fs - (fs.map (shareOf (q - lowerSum fs) (weightOf fs))).sum then 1 else 0 := by
  rw [allocate_of_between hok (Nat.le_succ _) hlo.le hhi]
  generalize q - lowerSum fs = x at hstay ⊢
  subst hfs
  rw [received_of_mem (shareRounds_nodup hnd (Nat.le_succ _)) (mem_shareRounds_last _ hstay), Nat.add_assoc]

end
end

/-- Settles O24: the sum, the bounds, and the rounds between the sums of the bounds. -/
theorem allocationsSumToTheSteamPlaced : Obligations.AllocationsSumToTheSteamPlaced := by
  unfold Obligations.AllocationsSumToTheSteamPlaced
  intro fs q hnd hok
  refine ⟨allocate_sum hnd hok q, fun f hf => allocate_mem hnd hok q hf, fun hlo hhi => ⟨fun f hf => ?leaves,
    fun hleave f hf => ?stays, fun hleave gs hs f hfs => ?last⟩⟩
  case leaves => exact allocate_leaver hnd hok hlo hhi hf
  case stays => exact allocate_stayer hnd hok hlo hhi hleave hf
  case last => exact allocate_last hnd hok hlo hhi hfs hleave

end Sys2Proof.Machine
end

section
/-! A balance cycle's figures meet the balance law (R122 to R132). -/

namespace Sys2Proof.Machine
open Sys2Proof

/-! ## The cut (R125) -/

/-- What is cut and what is missing make up the deficit, and no more is cut than a turbine's target. -/
theorem cutsOf_spec (deficit : Int) (target1 floor1 target2 floor2 : Nat) :
    (cutsOf deficit target1 floor1 target2 floor2).cut1 ≤ target1 ∧
    (cutsOf deficit target1 floor1 target2 floor2).cut2 ≤ target2 ∧
    (cutsOf deficit target1 floor1 target2 floor2).cut1 + (cutsOf deficit target1 floor1 target2 floor2).cut2 +
      (cutsOf deficit target1 floor1 target2 floor2).residual = deficit.toNat := by
  dsimp only [cutsOf]
  omega

/-! ## The firing lines (R117, R124) -/

namespace Block
variable {b : Block}

theorem firingLines_nodup (b : Block) : (b.firingLines.map FiringLine.line).Nodup := by
  rw [firingLines, List.map_filterMap]
  refine List.Nodup.filterMap (fun l m n hl hm => ?_) (by decide)
  simp only [Option.mem_def, Option.map_eq_some_iff, Option.ite_none_right_eq_some, Option.some.injEq] at hl hm
  obtain ⟨_, ⟨-, rfl⟩, rfl⟩ := hl
  obtain ⟨_, ⟨-, rfl⟩, hlm⟩ := hm
  exact hlm.symm

theorem firingLines_ok (hw : ∀ l, 1 ≤ (b.lineParams l).weight) :
    ∀ f ∈ b.firingLines, f.lo ≤ f.hi ∧ 1 ≤ f.weight := by
  intro f hf
  obtain ⟨l, -, hl⟩ := List.mem_filterMap.1 hf
  rw [Option.ite_none_right_eq_some, Option.some.injEq] at hl
  obtain ⟨-, rfl⟩ := hl
  exact ⟨Nat.div_le_div_right (Nat.mul_le_mul_right _ (min_le_right _ _)), hw l⟩

/-! ## The figures (R127 to R131) -/

/-- The allocation a line's figures hold, 0 where it has none. -/
def heldAlloc (b : Block) (l : LineId) : Nat := ((b.blu.figures.get l).map LineFigures.alloc).getD 0

theorem balanceLaw_iff (b : Block) : b.balanceLaw ↔
    (b.heldAlloc .l1 + b.heldAlloc .l2 + b.heldAlloc .l3 + b.blu.uncontrolled + b.blu.residual : Int) =
      (b.turbine .t1).targetAfter + (b.turbine .t2).targetAfter + b.blu.target + b.blu.trim + b.blu.unabsorbed :=
  Iff.rfl

/-- The steam a cycle places on the lines: the demand after the cut, less the uncontrolled steam (R127). -/
def placed (b : Block) : Nat := (b.balanceFigures.demandCut - b.balanceFigures.uncontrolled).toNat

/-- The figures a cycle forms hold each firing line's allocation. -/
theorem balanceFigures_alloc (b : Block) (l : LineId) :
    ((b.balanceFigures.figures.get l).map LineFigures.alloc).getD 0 =
      received (b.firingLines.map fun f => (f.line, allocate b.firingLines b.placed f)) l := by
  have hfigures : b.balanceFigures.figures.get l = ((b.firingLines.map fun f =>
      (f.line, figuresOf b.firingLines b.placed f)).find? fun f => f.1 == l).map Prod.snd := PerLine.get_tabulate _ l
  rw [hfigures, received, List.find?_map, List.find?_map, Option.map_map, Option.map_map, Option.map_map]
  rfl

/-- The allocations of a cycle's figures sum to the steam placed, within the sums of the bounds (R127). -/
theorem balanceFigures_alloc_sum (hw : ∀ l, 1 ≤ (b.lineParams l).weight) :
    let alloc (l : LineId) : Nat := ((b.balanceFigures.figures.get l).map LineFigures.alloc).getD 0
    alloc .l1 + alloc .l2 + alloc .l3 =
      max (lowerSum b.firingLines) (min b.placed (upperSum b.firingLines)) := by
  dsimp only
  rw [balanceFigures_alloc, balanceFigures_alloc, balanceFigures_alloc, received_allLines, List.map_map]
  · exact allocate_sum b.firingLines_nodup (firingLines_ok hw) b.placed
  · rw [List.map_map]
    exact b.firingLines_nodup

theorem balanceFigures_demand (b : Block) : b.balanceFigures.demand =
    (b.turbine .t1).targetBefore + (b.turbine .t2).targetBefore + b.cmc.params.plant.bMin + b.balanceFigures.trim := rfl

theorem balanceFigures_demandCut (b : Block) : b.balanceFigures.demandCut =
    b.balanceFigures.demand - b.balanceFigures.cut1 - b.balanceFigures.cut2 := rfl

theorem balanceFigures_cuts (b : Block) :
    b.balanceFigures.cut1 ≤ (b.turbine .t1).targetBefore ∧ b.balanceFigures.cut2 ≤ (b.turbine .t2).targetBefore ∧
    b.balanceFigures.cut1 + b.balanceFigures.cut2 + b.balanceFigures.residual =
      (b.balanceFigures.demand - (upperSum b.firingLines + b.balanceFigures.uncontrolled)).toNat :=
  cutsOf_spec _ _ _ _ _

theorem balanceFigures_surplus (b : Block) : b.balanceFigures.surplus =
    ((b.firingLines.map (allocate b.firingLines b.placed)).sum + b.balanceFigures.uncontrolled -
      b.balanceFigures.demandCut : Int).toNat := by
  rw [Nat.cast_list_sum, List.map_map]
  have hheld : (b.firingLines.map fun f => (f.line, figuresOf b.firingLines b.placed f)).map
      (fun f => (f.2.alloc : Int)) = b.firingLines.map (Nat.cast ∘ allocate b.firingLines b.placed) := List.map_map
  rw [← hheld]
  rfl

/-- What the bypass does not take of its minimum and the surplus is unabsorbed (R130, R131). -/
theorem balanceFigures_bypass (b : Block) : b.balanceFigures.target + b.balanceFigures.unabsorbed =
    b.cmc.params.plant.bMin + b.balanceFigures.surplus :=
  Nat.add_sub_cancel' (min_le_left _ _)

/-- The figures a cycle forms balance against the turbine targets less the cuts (R132). -/
theorem balanceFigures_balance (hw : ∀ l, 1 ≤ (b.lineParams l).weight) :
    let x := b.balanceFigures
    let alloc (l : LineId) : Nat := ((x.figures.get l).map LineFigures.alloc).getD 0
    (alloc .l1 + alloc .l2 + alloc .l3 + x.uncontrolled + x.residual : Int) =
      ((b.turbine .t1).targetBefore - x.cut1 : Nat) + ((b.turbine .t2).targetBefore - x.cut2 : Nat) + x.target +
        x.trim + x.unabsorbed := by
  have hallocs := balanceFigures_alloc_sum hw
  have hsurplus := b.balanceFigures_surplus
  rw [allocate_sum b.firingLines_nodup (firingLines_ok hw)] at hsurplus
  have hbounds := lowerSum_add_headroom (firingLines_ok hw)
  have hdemand := b.balanceFigures_demand
  have hdemandCut := b.balanceFigures_demandCut
  obtain ⟨hcut1, hcut2, hcuts⟩ := b.balanceFigures_cuts
  have hbypass := b.balanceFigures_bypass
  have hplaced : b.placed = (b.balanceFigures.demandCut - b.balanceFigures.uncontrolled).toNat := rfl
  dsimp only at hallocs ⊢
  omega

/-! ## The cycle (R120, R149) -/

/-- Turbine targets after the cut (R149). -/
theorem moveSetpoints_targetAfter (b : Block) (x y : Nat) :
    ((b.moveSetpoints x y).turbine .t1).targetAfter = x ∧ ((b.moveSetpoints x y).turbine .t2).targetAfter = y :=
  ⟨rfl, rfl⟩

theorem balanceCycle_blu (b : Block) : b.balanceCycle.blu = b.applyQueue.convert.balanceFigures := by
  simp [balanceCycle, allLines]

theorem balanceCycle_targetAfter (b : Block) :
    (b.balanceCycle.turbine .t1).targetAfter =
      (b.applyQueue.convert.turbine .t1).targetBefore - b.applyQueue.convert.balanceFigures.cut1 ∧
    (b.balanceCycle.turbine .t2).targetAfter =
      (b.applyQueue.convert.turbine .t2).targetBefore - b.applyQueue.convert.balanceFigures.cut2 := by
  have hnotices (b : Block) (p q : Bool) (u : TurbineId) : (b.cycleNotices p q).turbine u = b.turbine u := by
    simp [turbine]
  simp only [balanceCycle, hnotices]
  exact moveSetpoints_targetAfter _ _ _

/-- R132: a balance cycle ends with the balance law. -/
theorem balanceCycle_law (hw : ∀ l, 1 ≤ (b.lineParams l).weight) : b.balanceCycle.balanceLaw := by
  have hparams : b.applyQueue.convert.cmc = b.cmc := by simp
  have hbalance := balanceFigures_balance (b := b.applyQueue.convert) fun l => by
    rw [lineParams, hparams]
    exact hw l
  obtain ⟨hafter1, hafter2⟩ := b.balanceCycle_targetAfter
  rw [balanceLaw_iff, hafter1, hafter2]
  simp only [heldAlloc, balanceCycle_blu]
  exact hbalance

end Block
end Sys2Proof.Machine
end

section
/-! Every weight stays at 1 or more: what PARAM SET, an image and the defaults leave of a line's weight (R210, R213). -/

namespace Sys2Proof.Machine
open Sys2Proof

/-- Every line's weight is in its range of 1 and more (13.2). -/
def Params.Weighted (p : Params) : Prop := ∀ l, 1 ≤ (p.line.get l).weight

theorem Params.weighted_default : Params.default.Weighted := fun l => by cases l <;> decide

theorem Params.Weighted.of_line {p q : Params} (h : p.Weighted) (hline : q.line = p.line) : q.Weighted := by
  rw [Params.Weighted, hline]
  exact h

/-- An item of the LINE group writes another field than the weight, or it is the weight, whose range begins at 1. -/
theorem lineItem_cases {n : Nat} {i : Item LineParams} (h : itemAt lineItems n = some i) :
    (∀ p v, (i.set p v).weight = p.weight) ∨
    (n = 22 ∧ i.lo = 1 ∧ i.hi = 100 ∧ ∀ p v, (i.set p v).weight = v) := by
  unfold itemAt at h
  split at h
  · exact nomatch h
  · next hn =>
    obtain ⟨hlt, rfl⟩ := List.getElem?_eq_some_iff.1 h
    obtain ⟨k, rfl⟩ := Nat.exists_eq_succ_of_ne_zero hn
    change k < 22 at hlt
    rcases (Nat.le_of_lt_succ hlt).eq_or_lt with rfl | hother
    · exact .inr ⟨rfl, rfl, rfl, fun _ _ => rfl⟩
    · interval_cases k <;> exact .inl fun _ _ => rfl

/-- An item of another group leaves the lines' parameters alone. -/
theorem ParamName.set_line {n : ParamName} {i : Item Params} (hi : n.item = some i) (hn : ∀ l k, n ≠ .line l k)
    (p : Params) (v : Nat) : (i.set p v).line = p.line := by
  cases n with
  | line l k => exact absurd rfl (hn l k)
  | turbine t k =>
    simp only [ParamName.item, Option.ite_none_left_eq_some, Option.map_eq_some_iff] at hi
    obtain ⟨-, j, -, rfl⟩ := hi
    rfl
  | plant k | quantity x k | bus k | noticeClass x k =>
    obtain ⟨j, -, rfl⟩ := Option.map_eq_some_iff.1 hi
    rfl

/-- A stored value leaves every weight in its range (R210). -/
theorem ParamName.set_stored_weighted {n : ParamName} {i : Item Params} (hi : n.item = some i) {p : Params}
    (h : p.Weighted) (v : Nat) : (i.set p (n.stored i p v)).Weighted := by
  cases n with
  | line l k =>
    obtain ⟨j, hj, rfl⟩ := Option.map_eq_some_iff.1 hi
    have hset (x : Nat) (hx : x = (ParamName.line l k).round p (clamp j.lo j.hi v)) :
        1 ≤ (j.set (p.line.get l) x).weight := by
      rcases lineItem_cases hj with hother | ⟨rfl, hlo, hhi, hset⟩
      · rw [hother]
        exact h l
      · rw [hset, hx, hlo, hhi]
        exact (clamp_mem (by decide) v).1
    intro m
    by_cases hm : m = l
    · subst hm
      exact (PerLine.get_set_self p.line m _).symm ▸ hset _ rfl
    · exact (PerLine.get_set_of_ne p.line _ hm).symm ▸ h m
  | plant k | quantity x k | turbine t k | bus k | noticeClass x k =>
    exact h.of_line (ParamName.set_line hi (by simp) p _)

theorem ParamName.alsoSet_line (n : ParamName) (p : Params) : (n.alsoSet p).line = p.line := by
  unfold ParamName.alsoSet
  split <;> rfl

theorem ParamName.write_weighted {n : ParamName} {i : Item Params} (hi : n.item = some i) {p : Params}
    (h : p.Weighted) (v : Nat) : (n.write i p v).Weighted :=
  (ParamName.set_stored_weighted hi h v).of_line (n.alsoSet_line _)

theorem takeImageValue_weighted {p : Params} (h : p.Weighted) (nv : ParamName × Nat) :
    (takeImageValue p nv).Weighted := by
  unfold takeImageValue
  split
  · exact h
  · next i hi =>
    split
    · exact h
    · split
      · next hn => exact h.of_line (ParamName.set_line (hn ▸ hi) (by simp) p _)
      · exact ParamName.set_stored_weighted hi h _

/-- The set an image gives has its weights in range (R213). -/
theorem paramsOfImage_weighted (values : List Nat) : (paramsOfImage values).Weighted := by
  have htaken (nvs : List (ParamName × Nat)) (p : Params) (h : p.Weighted) : (nvs.foldl takeImageValue p).Weighted := by
    induction nvs generalizing p with
    | nil => exact h
    | cons nv nvs ih => exact ih _ (takeImageValue_weighted h nv)
  exact (htaken _ _ Params.weighted_default).of_line rfl

theorem loadMemory_weighted {answers : Bool} {m : List Host.Cell} {p : Params} {stored : List (Option StationId)}
    {crc : Nat} (h : loadMemory answers m = .accepted p stored crc) : p.Weighted := by
  unfold loadMemory loadImage at h
  dsimp only at h
  split_ifs at h
  obtain ⟨rfl, -⟩ := LoadResult.accepted.inj h
  exact paramsOfImage_weighted _

end Sys2Proof.Machine
end

section
/-! The balance law through every operation of the part but the cycle: none changes a figure of the law or brings a
weight out of its range (R132). -/

namespace Sys2Proof.Machine
open Sys2Proof

/-- The figures of the balance record that the law speaks of (R132). -/
def Blu.lawFigures (x : Blu) : PerLine (Option LineFigures) × Nat × Nat × Nat × Int × Nat :=
  (x.figures, x.uncontrolled, x.residual, x.target, x.trim, x.unabsorbed)

namespace Block

theorem balanceLaw_congr {b t : Block} (hblu : t.blu.lawFigures = b.blu.lawFigures)
    (hafter : ∀ u, (t.turbine u).targetAfter = (b.turbine u).targetAfter) : t.balanceLaw ↔ b.balanceLaw := by
  simp only [Blu.lawFigures, Prod.mk.injEq] at hblu
  obtain ⟨hfigures, huncontrolled, hresidual, htarget, htrim, hunabsorbed⟩ := hblu
  simp only [balanceLaw_iff, heldAlloc, hfigures, huncontrolled, hresidual, htarget, htrim, hunabsorbed, hafter]

/-- The balance law holds of the figures held, and the weights are as the next cycle needs them. -/
def Balanced (b : Block) : Prop := b.cmc.params.Weighted ∧ b.balanceLaw

namespace Balanced
variable {b t : Block}

theorem weights (h : Balanced b) : b.cmc.params.Weighted := h.1

theorem law (h : Balanced b) : b.balanceLaw := h.2

/-! ## Updates of one block's record -/

theorem of_figures (h : Balanced b) (hparams : t.cmc.params.Weighted) (hblu : t.blu.lawFigures = b.blu.lawFigures)
    (hafter : ∀ u, (t.turbine u).targetAfter = (b.turbine u).targetAfter) : Balanced t :=
  ⟨hparams, (balanceLaw_congr hblu hafter).2 h.law⟩

/-- An operation that leaves the BLU, the TDU and the parameters alone. -/
theorem frame (h : Balanced b) (hparams : t.cmc.params = b.cmc.params := by simp) (hblu : t.blu = b.blu := by simp)
    (htdu : t.tdu = b.tdu := by simp) : Balanced t :=
  h.of_figures (hparams ▸ h.weights) (congrArg _ hblu) fun u => by rw [turbine, htdu]; rfl

/-- An operation on one line, which of the BLU changes that line's copy alone. -/
theorem of_onlyLine {l : LineId} (h : Balanced b) (g : b.onlyLine t l) : Balanced t := by
  obtain ⟨-, htdu, -, hcmc, hblu, -⟩ := g
  exact h.of_figures (hcmc ▸ h.weights) (by rw [hblu]; rfl) fun u => by rw [turbine, htdu]; rfl

theorem modBlu {f : Blu → Blu} (h : Balanced b) (hf : ∀ x, (f x).lawFigures = x.lawFigures := by exact fun _ => rfl) :
    Balanced (b.modBlu f) := h.of_figures h.weights (hf _) fun _ => rfl

theorem modTurbine {u : TurbineId} {f : Turbine → Turbine} (h : Balanced b)
    (hf : ∀ x, (f x).targetAfter = x.targetAfter := by exact fun _ => rfl) : Balanced (b.modTurbine u f) :=
  h.of_figures h.weights rfl fun v => by
    by_cases hv : v = u
    · rw [hv, modTurbine_turbine_self, hf]
    · rw [modTurbine_turbine_of_ne b f hv]

theorem ite {p : Prop} [Decidable p] (hb : Balanced b) (ht : Balanced t) : Balanced (if p then b else t) := by
  split
  · exact hb
  · exact ht

theorem foldl {α : Type} {f : Block → α → Block} (hf : ∀ b x, Balanced b → Balanced (f b x)) (xs : List α)
    (h : Balanced b) : Balanced (xs.foldl f b) := by
  induction xs generalizing b with
  | nil => exact h
  | cons x xs ih => exact ih (hf b x h)

theorem raise {k : NoticeKind} {n : Nat} {d : List Byte} (h : Balanced b) : Balanced (b.raise k n d) := h.frame

theorem modLsc {l : LineId} {f : Lsc → Lsc} (h : Balanced b) : Balanced (b.modLsc l f) := h.frame

theorem modGfu {l : LineId} {f : Gfu → Gfu} (h : Balanced b) : Balanced (b.modGfu l f) := h.frame

theorem modEau {l : LineId} {f : Eau → Eau} (h : Balanced b) : Balanced (b.modEau l f) := h.frame

theorem modCcu {l : LineId} {f : Ccu → Ccu} (h : Balanced b) : Balanced (b.modCcu l f) := h.frame

theorem modDau {l : LineId} {f : Dau → Dau} (h : Balanced b) : Balanced (b.modDau l f) := h.frame

theorem modBus {f : Bus → Bus} (h : Balanced b) : Balanced (b.modBus f) := h.frame

theorem modLink {f : Link → Link} (h : Balanced b) : Balanced (b.modLink f) := h.frame

theorem setClock {k : Clock} (h : Balanced b) : Balanced { b with clock := k } := h.frame

/-! ## Lines -/

theorem setCause {l : LineId} {x : Cause} {p : Bool} (h : Balanced b) : Balanced (b.setCause l x p) := by
  have htaken {t : Block} {c : Causes} (ht : Balanced t) : Balanced (t.takeCauses l c) :=
    ht.of_onlyLine (t.takeCauses_onlyLine l c)
  exact .ite h (htaken (.ite (.ite h.frame h.frame) (.ite h.frame h.frame)))

theorem dosingEvent {l : LineId} {f : Ccu → Ccu} (h : Balanced b) : Balanced (b.dosingEvent l f) :=
  .ite h.modCcu h.modCcu.setCause

theorem enterHold {l : LineId} {c : TempCause} (h : Balanced b) : Balanced (b.enterHold l c) :=
  (h.modLsc.of_onlyLine (enter_onlyLine _ l .hold)).raise

theorem furnaceSample {l : LineId} {temp : Nat} {status : OkFault} (h : Balanced b) :
    Balanced (b.furnaceSample l temp status) := .ite h.modLsc.enterHold h.modLsc

theorem furnaceLoss {l : LineId} (h : Balanced b) : Balanced (b.furnaceLoss l) := .ite h.modLsc.enterHold h.modLsc

theorem feederLoss {l : LineId} (h : Balanced b) : Balanced (b.feederLoss l) :=
  (h.of_onlyLine (b.feedFault_onlyLine l true)).modGfu

theorem feedStopTaken (h : Balanced b) : Balanced b.feedStopTaken :=
  foldl (fun b l h => h.of_onlyLine (b.feedStopLine_onlyLine l)) _ (frame (t := { b with feedStop := true }) h)

theorem select {l : LineId} {x : Selection} (h : Balanced b) : Balanced (b.select l x) :=
  .ite h (.ite h.modEau.raise.setCause (.ite h.modEau.raise.setCause h.modEau.raise))

theorem analyzerReply {l : LineId} {isA : Bool} {r : AnalyzerReply} (h : Balanced b) :
    Balanced (b.analyzerReply l isA r) := by
  have hsamples : Balanced (if ((b.line l).eau.active == selOf isA) && b.running then
      b.modEau l fun e => { e with samples := .zipWith addSample r e.samples } else b) := .ite h.modEau h
  exact .ite hsamples.modEau.select hsamples.modEau

/-! ## Closes -/

theorem ccuClose {l : LineId} {m : MinuteId} (h : Balanced b) : Balanced (b.ccuClose l m) := by
  unfold Block.ccuClose
  split
  · exact h.modCcu.of_onlyLine (minuteWork_onlyLine _ l _)
  · exact h.modCcu
  · exact h.modCcu

theorem eauMinute {l : LineId} {m : MinuteId} {cut : Bool} (h : Balanced b) : Balanced (b.eauMinute l m cut) := by
  have hhanded {t : Block} {x : HandOver} (ht : Balanced t) : Balanced (t.ccuHandOver l x) :=
    ht.of_onlyLine (t.ccuHandOver_onlyLine l x)
  exact .ite (hhanded h.modEau).select (hhanded h.modEau)

theorem eauClose {l : LineId} {c : Close} (h : Balanced b) : Balanced (b.eauClose l c) := by
  cases c with
  | minute m cut => exact h.eauMinute
  | halfHour y d i cut => exact frame (t := b.eauHalfHour l y d i cut) h
  | day y d r cut => exact frame (t := b.eauDay l y d r cut) h
  | yearChange old new => exact h

theorem dauClose {l : LineId} {c : Close} (h : Balanced b) : Balanced (b.dauClose l c) := by
  cases c with
  | minute m cut => exact frame (t := b.dauMinute l) h
  | halfHour y d i cut => exact h
  | day y d r cut => exact .ite h.modDau h
  | yearChange old new => exact h.modDau

/-! ## Turbines -/

theorem trip {u : TurbineId} {c : TripCause} (h : Balanced b) : Balanced (b.trip u c) :=
  .ite h.modBlu.modTurbine.raise h

theorem tryOnline {u : TurbineId} (h : Balanced b) : Balanced (b.tryOnline u) := .ite h.modTurbine h

theorem tryRunupTimeout {u : TurbineId} (h : Balanced b) : Balanced (b.tryRunupTimeout u) := .ite h.modTurbine.raise h

theorem turbineTick {u : TurbineId} (h : Balanced b) : Balanced (b.turbineTick u) := by
  have hqualified : Balanced ((b.modTurbine u fun x => x.qualify (b.turbineParams u).ratedSpeed).tryOnline u) :=
    h.modTurbine.tryOnline
  exact .ite (.ite hqualified.modTurbine.tryRunupTimeout hqualified) h

theorem risingEdge {u : TurbineId} {n : Nat} (h : Balanced b) : Balanced (b.risingEdge u n) :=
  .ite (.ite (.ite h.modTurbine.trip h.modTurbine) h.modTurbine) h.modTurbine

/-! ## Deliveries -/

theorem balanceCycle (h : Balanced b) : Balanced b.balanceCycle :=
  have hparams : b.balanceCycle.cmc = b.cmc := by simp
  ⟨hparams ▸ h.weights, balanceCycle_law h.weights⟩

theorem withTaken {x : PerLine Taken} (h : Balanced b) : Balanced (b.withTaken x) := h.modBlu

theorem act (j : Job) (h : Balanced b) : Balanced (j.act b) := by
  unfold Job.act
  split
  · exact h.of_onlyLine (b.lscTick_onlyLine _)
  · exact h.of_onlyLine (b.gfuTick_onlyLine _)
  · exact h.turbineTick
  · exact h.frame
  · exact h.ccuClose
  · exact h.eauClose
  · exact h.dauClose.modLsc
  · exact h.of_onlyLine (b.takeLimitNow_onlyLine _)
  · exact h

/-- A delivery keeps the law; a balance cycle among them, on the copies the BLU has taken, forms it anew (R134). -/
theorem run {x : Pass} (j : Job) (h : Balanced x.block) : Balanced (j.run x).block := by
  unfold Job.run
  split
  · exact h
  · exact h.withTaken.balanceCycle.withTaken
  · exact h.act j

theorem deliverAll (js : List Job) (h : Balanced b) : Balanced (b.deliverAll js) := by
  have hjobs (x : Pass) (hx : Balanced x.block) : Balanced (x.takeJobs js).block := by
    induction js generalizing x with
    | nil => exact hx
    | cons j js ih => exact ih _ (hx.run j)
  exact hjobs ⟨b, b.taken⟩ h

theorem takeLimits (h : Balanced b) : Balanced b.takeLimits :=
  foldl (fun b l h => h.of_onlyLine (b.takeLimit_onlyLine l)) _ h

theorem runJobs (js : List Job) (h : Balanced b) : Balanced (b.runJobs js) :=
  setClock (foldl (fun b l h => h.of_onlyLine (b.takeLimitNow_onlyLine l)) allLines (h.takeLimits.deliverAll _))

theorem takeLate (h : Balanced b) : Balanced b.takeLate := by
  rw [takeLate_eq_deliverAll]
  exact deliverAll _ h.setClock

theorem secondTick (h : Balanced b) : Balanced b.secondTick := by
  have hcounted : Balanced b.countUptime := h.setClock
  unfold Block.secondTick
  dsimp only
  split
  · exact runJobs _ hcounted.setClock
  · split
    · exact runJobs _ hcounted.setClock
    · exact setClock (runJobs _ hcounted.setClock)

end Balanced
end Block
end Sys2Proof.Machine
end

section
/-! Every step keeps the balance law (R132): the stations, the requests, the host link, the configuration memory and
the resets. -/

namespace Sys2Proof.Machine
open Sys2Proof
namespace Block
namespace Balanced
variable {b t : Block}

/-! ## Stations and roles -/

theorem deliverReply {r : Role} {p : List Byte} {returned : Bool} (h : Balanced b) :
    Balanced (b.deliverReply r p returned) := by
  cases r with
  | feeder l => exact frame (t := b.feederReport l _ _) h
  | furnace l =>
    have hsample {t : Block} {n : Nat} {o : OkFault} (ht : Balanced t) : Balanced (t.steamSample l n o) := ht.frame
    exact (hsample h.furnaceSample).modBlu
  | analyzerA l | analyzerB l => exact analyzerReply (.ite h.modEau.select h)
  | dosing l => exact h.dosingEvent
  | header | bypass => exact h.modBlu
  | turbine u => exact h.modTurbine

theorem deliverLoss {r : Role} (h : Balanced b) : Balanced (b.deliverLoss r) := by
  cases r with
  | feeder l => exact h.feederLoss
  | furnace l => exact h.furnaceLoss.modBlu
  | analyzerA l | analyzerB l => exact h.modEau.select
  | dosing l => exact h.dosingEvent
  | header | bypass => exact h.modBlu
  | turbine u => exact h.modTurbine

theorem deliverBinding {r : Role} {lost : Bool} (h : Balanced b) : Balanced (b.deliverBinding r lost) := by
  cases r with
  | analyzerA l | analyzerB l => exact h.modEau.select
  | dosing l => exact h.dosingEvent
  | turbine u => exact h.modTurbine
  | feeder l | furnace l | header | bypass => exact h

theorem deliverUnbinding {r : Role} (h : Balanced b) : Balanced (b.deliverUnbinding r) := by
  cases r with
  | furnace l => exact h.modLsc.modBlu
  | analyzerA l | analyzerB l => exact h.modEau.select
  | dosing l => exact h.dosingEvent
  | header | bypass => exact h.modBlu
  | turbine u => exact h.modTurbine
  | feeder l => exact h

theorem bindRole {e : Station} {r : Role} (h : Balanced b) : Balanced (b.bindRole e r) := h.modBus.deliverBinding

theorem unbindRole {e : Station} {r : Role} (h : Balanced b) : Balanced (b.unbindRole e r) :=
  h.modBus.deliverUnbinding

theorem pollOutcome {n : Nat} {o : PollOutcome} {p : List Byte} (h : Balanced b) :
    Balanced (b.pollOutcome n o p) := by
  have hfailed (e : Station) : Balanced (b.pollFailed e o) := by
    refine .ite ?_ h.modBus
    split
    · exact h.modBus.raise.deliverLoss
    · exact h.modBus.raise
  have hgood (e : Station) : Balanced (b.pollGood e p) := by
    have hback {f : Bus → Bus} : Balanced
        (if e.lost then (b.modBus f).raise .stationBack e.number (u8 (roleCode e.role)) else b.modBus f) :=
      .ite h.modBus.raise h.modBus
    unfold Block.pollGood
    dsimp only
    split
    · exact hback.deliverReply
    · exact hback
  unfold Block.pollOutcome
  split
  · exact h
  · exact .ite (hgood _) (hfailed _)

theorem applyStored {e : Station} (h : Balanced b) : Balanced (b.applyStored e) := by
  unfold Block.applyStored
  split
  · exact h
  · exact .ite h.bindRole h

theorem assignOutcome {o : PollOutcome} (h : Balanced b) : Balanced (b.assignOutcome o) := by
  have hgood (c : Candidate) : Balanced (b.assignGood c) :=
    .ite (.ite h.modBus h.frame) (applyStored (b := b.addStation _) h.modBus).modBus
  unfold Block.assignOutcome
  split
  · exact h
  · exact .ite (hgood _) h.frame

theorem decideAnswer {x : Transaction} {o : PollOutcome} {p : List Byte} (h : Balanced b) :
    Balanced (b.decideAnswer x o p) := by
  have hbus : Balanced (match o with
      | .good | .miss => b.freeBus
      | .crossed | .bad => b.modBus fun x => { x with state := .settling }) := by
    cases o <;> exact h.modBus
  unfold Block.decideAnswer
  dsimp only
  cases x.command with
  | poll => exact .ite hbus.pollOutcome hbus
  | assign => exact hbus.assignOutcome
  | rollCall | clear | forget => exact hbus

theorem busChar {c : BusChar} (h : Balanced b) : Balanced (b.busChar c) := by
  have hanswer (x : Transaction) : Balanced (b.answerChar x c) := by
    unfold Block.answerChar
    dsimp only
    cases x.command with
    | clear | forget => exact h
    | rollCall => exact h.modBus
    | poll | assign =>
      dsimp only
      split
      · exact h.modBus
      · exact h.modBus.decideAnswer
  refine .ite h ?_
  split
  · exact h.modBus
  · exact hanswer _
  · exact hanswer _
  · exact h

theorem decideNow {o : PollOutcome} (h : Balanced b) : Balanced (b.decideNow o) := by
  unfold Block.decideNow
  split
  · exact h.decideAnswer
  · exact h

/-! ## Requests -/

/-- An answer that refuses, or else acts, is one whose action does no more. -/
theorem ite_fst {p : Prop} [Decidable p] {x y : Block × Reply} (hx : Balanced x.1) (hy : Balanced y.1) :
    Balanced (if p then x else y).1 := by
  split
  · exact hx
  · exact hy

theorem serveClockSet {y d s : Nat} (h : Balanced b) : Balanced (b.serveClockSet y d s).1 :=
  .ite_fst h (.ite_fst h (setClock (h.takeLate.runJobs _)))

theorem deviationCeilingWritten {l : LineId} (h : Balanced b) : Balanced (b.deviationCeilingWritten l) :=
  .ite h (h.modCcu.of_onlyLine (recompute_onlyLine _ l))

/-- A parameter's write keeps the weights in range, and what its owner does keeps the figures (R210). -/
theorem writeParam {n : ParamName} {i : Item Params} (hi : n.item = some i) {v : Nat} (h : Balanced b) :
    Balanced (b.writeParam n i v) := by
  have hstored : Balanced (b.modCmc fun c => { c with params := n.write i c.params v }) :=
    h.of_figures (ParamName.write_weighted hi h.weights v) rfl fun _ => rfl
  unfold Block.writeParam Block.afterWrite
  split
  · exact hstored.deviationCeilingWritten
  · exact hstored.modBlu
  · exact hstored.frame
  · exact .ite hstored.modBus hstored
  · exact hstored

theorem serveParamSet {group inst item value : Nat} (h : Balanced b) :
    Balanced (b.serveParamSet group inst item value).1 := by
  unfold Block.serveParamSet
  split
  · exact h
  · split
    · exact h
    · next hi => exact .ite_fst h (.ite_fst h (h.writeParam hi))

theorem serveAllowanceRestore {l : LineId} {year used : Nat} {tallies : PerPollutant Nat} (h : Balanced b) :
    Balanced (b.serveAllowanceRestore l year used tallies).1 := by
  unfold Block.serveAllowanceRestore
  split
  · exact h
  · exact .ite h.takeLate.modDau.modEau.raise h.takeLate.modDau.modEau

theorem serveLineStart {l : LineId} (h : Balanced b) : Balanced (b.serveLineStart l).1 := by
  unfold Block.serveLineStart
  cases (b.line l).lsc.state with
  | idle =>
    dsimp only
    split
    · exact h
    · exact h.of_onlyLine (b.enterWarmup_onlyLine l _)
  | warmup | firing | hold | rundown => exact h

theorem serveLineFeed {l : LineId} (h : Balanced b) : Balanced (b.serveLineFeed l).1 := by
  unfold Block.serveLineFeed
  cases (b.line l).lsc.state with
  | idle | firing | hold => exact h
  | warmup =>
    dsimp only
    split
    · exact h
    · exact h.modLsc
  | rundown =>
    dsimp only
    split
    · exact h
    · exact h.of_onlyLine (b.enterWarmup_onlyLine l _)

theorem serveLineStop {l : LineId} (h : Balanced b) : Balanced (b.serveLineStop l).1 := by
  unfold Block.serveLineStop
  cases (b.line l).lsc.state with
  | idle | rundown => exact h
  | warmup => exact h.of_onlyLine (b.enterIdle_onlyLine l)
  | firing | hold => exact h.of_onlyLine (b.enterRundown_onlyLine l _)

theorem serveDeclareAction {l : LineId} {action : Nat} (h : Balanced b) :
    Balanced (b.serveDeclareAction l action).1 := by
  unfold Block.serveDeclareAction
  split
  · exact h.setCause
  · exact h.setCause
  · exact h

theorem serveTurbineStart {u : TurbineId} (h : Balanced b) : Balanced (b.serveTurbineStart u).1 := by
  unfold Block.serveTurbineStart
  cases (b.turbine u).state with
  | offline =>
    dsimp only
    split
    · exact h
    · exact h.modTurbine
  | runup | online | unloading | tripped => exact h

theorem serveTurbineStop {u : TurbineId} (h : Balanced b) : Balanced (b.serveTurbineStop u).1 := by
  unfold Block.serveTurbineStop
  cases (b.turbine u).state with
  | runup | online => exact h.modTurbine
  | offline | unloading | tripped => exact h

/-- An update of the TDU that leaves the turbines alone. -/
theorem modTdu {f : Tdu → Tdu} (h : Balanced b) (hf : (f b.tdu).turbines = b.tdu.turbines) : Balanced (b.modTdu f) :=
  h.of_figures h.weights rfl fun u => by
    have hturbines : (b.modTdu f).turbine u = b.turbine u := congrArg (·.get u) hf
    rw [hturbines]

theorem serveScheduleAdd {x : EffTime} {p q : Nat} (h : Balanced b) : Balanced (b.serveScheduleAdd x p q).1 := by
  refine .ite_fst h ?_
  dsimp only
  split
  · exact h
  · exact h.modTdu rfl

theorem serveScheduleCancel {x : EffTime} (h : Balanced b) : Balanced (b.serveScheduleCancel x).1 :=
  .ite_fst h (h.modTdu rfl)

theorem serveStationBind {n : Nat} {r : Role} (h : Balanced b) : Balanced (b.serveStationBind n r).1 := by
  unfold Block.serveStationBind
  split
  · exact h
  · exact .ite_fst h (.ite_fst h (.ite_fst h (.ite_fst h h.bindRole)))

theorem serveStationUnbind {r : Role} (h : Balanced b) : Balanced (b.serveStationUnbind r).1 := by
  unfold Block.serveStationUnbind
  split
  · exact h
  · exact .ite_fst h (.ite_fst h h.modBus.unbindRole)

theorem forgetStation {e : Station} (h : Balanced b) : Balanced (b.forgetStation e) := by
  unfold Block.forgetStation
  dsimp only
  split
  · exact h.modBus.modBus.unbindRole.modBus
  · exact h.modBus.modBus

theorem serveStationForget {n : Nat} (h : Balanced b) : Balanced (b.serveStationForget n).1 := by
  unfold Block.serveStationForget
  split
  · exact h
  · exact .ite_fst h (.ite_fst h h.forgetStation)

theorem onLine {p : List Byte} {f : LineId → Block × Reply} (h : Balanced b) (hf : ∀ l, Balanced (f l).1) :
    Balanced (b.onLine p f).1 := by
  unfold Block.onLine
  split
  · exact hf _
  · exact h

theorem onTurbine {p : List Byte} {f : TurbineId → Block × Reply} (h : Balanced b) (hf : ∀ u, Balanced (f u).1) :
    Balanced (b.onTurbine p f).1 := by
  unfold Block.onTurbine
  split
  · exact hf _
  · exact h

theorem onStation {n : Nat} {f : Nat → Block × Reply} (h : Balanced b) (hf : ∀ n, Balanced (f n).1) :
    Balanced (b.onStation n f).1 := .ite_fst (hf n) h

theorem onRole {n : Nat} {f : Role → Block × Reply} (h : Balanced b) (hf : ∀ r, Balanced (f r).1) :
    Balanced (b.onRole n f).1 := by
  unfold Block.onRole
  split
  · exact hf _
  · exact h

theorem serveConfigSave (h : Balanced b) : Balanced b.serveConfigSave.1 := by
  unfold Block.serveConfigSave
  cases b.cmc.save with
  | idle => exact h.of_figures h.weights rfl fun _ => rfl
  | writing | verifying => exact h

theorem serveKind {k : ReqKind} {p : List Byte} (h : Balanced b) : Balanced (b.serveKind k p).1 := by
  cases k with
  | ident | clockRead | scheduleList | statusPlant => exact h
  | clockSet => exact h.serveClockSet
  | paramSet => exact h.serveParamSet
  | paramGet =>
    have hread : (b.serveKind .paramGet p).1 = b := by
      simp only [Block.serveKind, Block.serveParamGet]
      split
      · rfl
      · split <;> rfl
    rwa [hread]
  | configSave => exact h.serveConfigSave
  | allowanceRestore => exact h.onLine fun l => h.serveAllowanceRestore
  | lineStart => exact h.onLine fun l => h.serveLineStart
  | lineFeed => exact h.onLine fun l => h.serveLineFeed
  | lineStop => exact h.onLine fun l => h.serveLineStop
  | lineCeiling => exact h.onLine fun l => h.of_onlyLine (b.setHostCeiling_onlyLine l _)
  | lineDeclare => exact h.onLine fun l => h.serveDeclareAction
  | turbineStart => exact h.onTurbine fun u => h.serveTurbineStart
  | turbineStop => exact h.onTurbine fun u => h.serveTurbineStop
  | tripReset => exact h.onTurbine fun u => .ite_fst h.modTurbine h
  | scheduleAdd => exact h.serveScheduleAdd
  | scheduleCancel => exact h.serveScheduleCancel
  | stationEnrol => exact frame (t := b.serveStationEnrol.1) h
  | stationList => exact h.onStation fun n => h
  | stationBind => exact h.onStation fun n => h.onRole fun r => h.serveStationBind
  | stationUnbind => exact h.onRole fun r => h.serveStationUnbind
  | stationForget => exact h.onStation fun n => h.serveStationForget
  | recordsFetch => exact frame (t := (b.serveRecordsFetch _ _).1) h
  | statusLine => exact h.onLine fun l => h
  | statusTurbine => exact h.onTurbine fun u => h
  | noticeList =>
    have hread : (b.serveKind .noticeList p).1 = b := by
      simp only [Block.serveKind, Block.serveListFrom]
      split <;> rfl
    rwa [hread]
  | noticeClear => exact frame (t := (b.serveNoticeClear _ _).1) h
  | noticeFloor => exact frame (t := (b.serveNoticeFloor _).1) h
  | restart => exact h.modLink

theorem answer (r : Request) (h : Balanced b) : Balanced (b.answer r) := by
  have hserved : Balanced ((b.modLink fun k => { k with awaiting := true }).serve r).1 := by
    unfold Block.serve
    split
    · exact h.modLink
    · exact .ite_fst h.modLink.serveKind h.modLink
  exact hserved.modLink.modLink

/-! ## The host link -/

theorem takeAlong (rs : List Request) (h : Balanced b) : Balanced (Block.takeAlong rs b) := by
  induction rs generalizing b with
  | nil => exact h
  | cons r rs ih => exact .ite (ih (h.modLink.answer r)) h

theorem takeWaiting (h : Balanced b) : Balanced b.takeWaiting := h.takeAlong _

theorem takeArrived {rs : List Request} (h : Balanced b) : Balanced (b.takeArrived rs) := .ite h.takeWaiting h

theorem sendOwed (h : Balanced b) : Balanced b.sendOwed := h.frame

theorem linkError {c : LinkErrorCause} {n : Nat} (h : Balanced b) : Balanced (b.linkError c n) := h.modLink.raise

theorem checkFrame (h : Balanced b) : Balanced b.checkFrame := by
  unfold Block.checkFrame
  split
  · exact h.modLink
  · exact h.modLink.linkError

theorem assemble {v : Byte} (h : Balanced b) : Balanced (b.assemble v) := by
  unfold Block.assemble
  cases b.link.assembler with
  | hunt => exact .ite h.modLink h.linkError
  | length => exact .ite h.modLink h.modLink.linkError
  | body => exact h.modLink
  | crc => exact .ite h.modLink.checkFrame h.modLink

theorem hostByte (v : Byte) (h : Balanced b) : Balanced (b.hostByte v) :=
  takeArrived (.ite h (.ite (.ite h.linkError h.modLink.linkError) h.assemble))

theorem submit {r : Request} (h : Balanced b) : Balanced (b.submit r) :=
  .ite h.modLink.takeArrived (foldl (fun _ v h => h.hostByte v) _ h)

theorem messageSent {requestFirst : Bool} (h : Balanced b) : Balanced (b.messageSent requestFirst) :=
  .ite h (.ite (.ite h.modLink.modLink h.modLink)
    (.ite h.modLink.takeWaiting.sendOwed h.modLink.sendOwed.takeWaiting))

theorem grantMoment {first : List LinkEvent} (h : Balanced b) : Balanced (b.grantMoment first) := by
  have hevent (b : Block) (e : LinkEvent) (h : Balanced b) : Balanced (b.linkEvent e) := by
    cases e with
    | byte v => exact h.hostByte v
    | messageSent requestFirst => exact h.messageSent
  have hfirst : Balanced (first.foldl Block.linkEvent b.grant) := foldl hevent _ h.frame
  exact .ite hfirst.frame hfirst

/-! ## The configuration memory, resets and the ready point -/

/-- An update of the configuration memory's record that leaves the parameters alone. -/
theorem modCmc {f : Cmc → Cmc} (h : Balanced b) (hf : ∀ c, (f c).params = c.params := by exact fun _ => rfl) :
    Balanced (b.modCmc f) := h.frame (hf _) rfl rfl

theorem writeDone {bad : List (Nat × Byte)} (h : Balanced b) : Balanced (b.writeDone bad) := by
  unfold Block.writeDone
  split
  · exact h.modCmc
  · exact h

theorem verifyDone (h : Balanced b) : Balanced b.verifyDone := by
  unfold Block.verifyDone
  split
  · dsimp only
    split
    · exact h.modCmc.modCmc.raise
    · exact h.modCmc.raise
  · exact h

/-- A full reset leaves every figure of the law at 0 and the weights at their default (R216). -/
theorem fullyReset {cause : ResetCause} {baud1 baud0 : Bool} {written : Nat} :
    Balanced (b.fullyReset cause baud1 baud0 written) := ⟨Params.weighted_default, rfl⟩

theorem loadConfiguration {answers : Bool} (h : Balanced b) : Balanced (b.loadConfiguration answers) := by
  have hdefaulted : Balanced b.defaulted := h.of_figures Params.weighted_default rfl fun _ => rfl
  unfold Block.loadConfiguration Block.applyLoad
  split
  · next hload => exact h.of_figures (loadMemory_weighted hload) rfl fun _ => rfl
  · exact hdefaulted.raise
  · exact hdefaulted.raise

theorem tripAsserted {u : TurbineId} (h : Balanced b) : Balanced (b.tripAsserted u) := h.modTurbine.trip

theorem takeInputs {feedStopLow trip1Low trip2Low : Bool} (h : Balanced b) :
    Balanced (b.takeInputs feedStopLow trip1Low trip2Low) := by
  have htrip {low : Bool} {u : TurbineId} {b : Block} (h : Balanced b) :
      Balanced (if low then b.tripAsserted u else b.tripReleased u) := .ite h.tripAsserted h.modTurbine
  exact htrip (htrip (.ite h.feedStopTaken (frame (t := { b with feedStop := false }) h)))

theorem readyPoint {answers feedStopLow trip1Low trip2Low : Bool} (h : Balanced b) :
    Balanced (b.readyPoint answers feedStopLow trip1Low trip2Low) := by
  have hqueued : Balanced (b.loadConfiguration answers).baudInForce.queueBroadcasts :=
    h.loadConfiguration.modBus.modBus.modBus
  have hwalk : Balanced (b.loadConfiguration answers).baudInForce.queueBroadcasts.startWalk :=
    .ite hqueued.modBus hqueued
  exact hwalk.takeInputs.frame rfl rfl rfl

theorem idleStep (h : Balanced b) : Balanced b.idleStep :=
  .ite h.takeLate.takeLimits.modLink h.takeLate.takeLimits

end Balanced
end Block

/-! ## Every step -/

/-- A command keeps the balance law. -/
theorem exec_balanced (i : Instr) {s : State} (hs : s.block.Balanced) :
    ∃ b, exec i s = .next (s.withBlock b) ∧ b.Balanced := by
  cases i with
  | powerOn | rstnReset => exact ⟨_, rfl, .fullyReset⟩
  | restartReset => exact ⟨_, rfl, .ite .fullyReset hs⟩
  | readyPoint => exact ⟨_, rfl, .ite hs hs.readyPoint⟩
  | secondTick => exact ⟨_, rfl, .secondTick (hs.takeLate.frame rfl rfl rfl)⟩
  | firingEntry l => exact ⟨_, rfl, hs.of_onlyLine (s.block.tryFire_onlyLine l)⟩
  | holdReturn l => exact ⟨_, rfl, hs.of_onlyLine (s.block.tryHoldReturn_onlyLine l)⟩
  | holdLimit l => exact ⟨_, rfl, hs.of_onlyLine (s.block.tryHoldLimit_onlyLine l)⟩
  | burnoutEnd l => exact ⟨_, rfl, hs.of_onlyLine (s.block.tryBurnoutEnd_onlyLine l)⟩
  | strokeDue l => exact ⟨_, rfl, hs.of_onlyLine (s.block.tryStrokeDue_onlyLine l)⟩
  | strokeTimeout l => exact ⟨_, rfl, hs.of_onlyLine (s.block.tryStrokeTimeout_onlyLine l)⟩
  | runupQualified => exact ⟨_, rfl, hs.tryOnline⟩
  | runupTimeout => exact ⟨_, rfl, hs.tryRunupTimeout⟩
  | feedStopAssert => exact ⟨_, rfl, .ite hs hs.feedStopTaken⟩
  | feedStopRelease => exact ⟨_, rfl, hs.frame rfl rfl rfl⟩
  | tripAssert => exact ⟨_, rfl, .ite hs hs.tripAsserted⟩
  | tripRelease | speedCountOverflow => exact ⟨_, rfl, hs.modTurbine⟩
  | spdRisingEdge => exact ⟨_, rfl, hs.risingEdge⟩
  | busGrant => exact ⟨_, rfl, hs.grantMoment⟩
  | stationFrameSent | turnaroundEnd | unansweredFrameEnd | settleEnd => exact ⟨_, rfl, .ite hs.modBus hs⟩
  | stationCharReceived | strayCharacter => exact ⟨_, rfl, hs.busChar⟩
  | responseTimeout | answerGapTimeout => exact ⟨_, rfl, .ite hs.decideNow hs⟩
  | rollCallWindowEnd => exact ⟨_, rfl, .frame (t := s.block.endWindow) hs⟩
  | hostByteReceived v => exact ⟨_, rfl, hs.hostByte v⟩
  | hostGapTimeout => exact ⟨_, rfl, .ite hs hs.modLink.linkError⟩
  | linkReset => exact ⟨_, rfl, .ite (.sendOwed (hs.frame rfl rfl rfl)) hs⟩
  | hrxdReturnedHigh => exact ⟨_, rfl, hs.modLink⟩
  | hrdyAsserted => exact ⟨_, rfl, .ite hs hs.modLink⟩
  | messageSent => exact ⟨_, rfl, hs.messageSent⟩
  | configWriteDone bad => exact ⟨_, rfl, hs.writeDone⟩
  | configVerifyDone => exact ⟨_, rfl, hs.verifyDone⟩
  | unknownKind | ident | clockSet | clockRead | paramSet | paramGet | configSave | allowanceRestore | lineStart
  | lineFeed | lineStop | lineCeiling | lineDeclare | turbineStart | turbineStop | tripReset | scheduleAdd
  | scheduleCancel | scheduleList | stationEnrol | stationList | stationBind | stationUnbind | stationForget
  | recordsFetch | statusLine | statusTurbine | statusPlant | noticeList | noticeClear | noticeFloor | restart =>
    exact ⟨_, rfl, hs.submit⟩

/-- A step keeps the balance law, and the weights as its next balance cycle needs them. -/
theorem step_balanced {s t : State} (hs : s.block.Balanced) (h : step s = .next t) : t.block.Balanced := by
  unfold step at h
  split at h
  · cases h
    exact hs.idleStep
  · next c rest _ =>
    obtain ⟨b, hexec, hb⟩ := exec_balanced c (s := { s with pending := rest }) hs
    cases hexec.symm.trans h
    exact hb

/-- Settles O25: a cycle's own figures balance, and a step forms figures in no other way. -/
theorem balanceLawHolds : Obligations.BalanceLawHolds := by
  unfold Obligations.BalanceLawHolds
  exact ⟨fun b hw => b.balanceCycle_law hw, fun s t hw hlaw hstep => (step_balanced ⟨hw, hlaw⟩ hstep).law⟩

end Sys2Proof.Machine
end

section
/-! The dispatch queue: its order by effective time, and what an addition or a removal makes of it (R137 to R139). -/

namespace Sys2Proof.Machine
open Sys2Proof

/-- A dispatch queue as R137 has it: in strictly rising order, with at most 16 entries. -/
structure QueueOk (q : List SchedEntry) : Prop where
  order : schedOk q = true
  bound : q.length ≤ 16

/-! ## Effective times (R137) -/

theorem EffTime.before_iff (x y : EffTime) : x.before y = true ↔
    x.year < y.year ∨ x.year = y.year ∧ (x.day < y.day ∨ x.day = y.day ∧ x.minute < y.minute) := by
  simp [EffTime.before]

theorem EffTime.before_trans {x y z : EffTime} (hxy : x.before y = true) (hyz : y.before z = true) :
    x.before z = true := by
  rw [EffTime.before_iff] at *
  omega

theorem EffTime.not_before_of_before {x y : EffTime} (h : x.before y = true) : ¬y.before x = true := by
  rw [EffTime.before_iff] at *
  omega

theorem EffTime.before_of_not_before {x y : EffTime} (hne : x ≠ y) (h : ¬x.before y = true) : y.before x = true := by
  obtain ⟨year, day, minute⟩ := x
  obtain ⟨year', day', minute'⟩ := y
  rw [ne_eq, EffTime.mk.injEq] at hne
  rw [EffTime.before_iff] at *
  dsimp only at *
  omega

/-! ## The order of the queue (R137) -/

/-- One entry before another in the queue's order. -/
def SchedEntry.earlier (e f : SchedEntry) : Prop := e.time.before f.time = true

/-- Strictly rising order is that every entry is earlier than all behind it. -/
theorem schedOk_iff (q : List SchedEntry) :
    schedOk q = true ↔ (∀ e ∈ q, e.time.valid = true) ∧ q.Pairwise SchedEntry.earlier := by
  induction q using schedOk.induct with
  | case1 => simp [schedOk]
  | case2 e => simp [schedOk]
  | case3 e f q ih =>
    rw [schedOk, Bool.and_eq_true, Bool.and_eq_true, ih,
      List.forall_mem_cons (a := e), List.pairwise_cons (a := e)]
    constructor
    · rintro ⟨⟨hvalid, hfirst⟩, hvalids, hrest⟩
      refine ⟨⟨hvalid, hvalids⟩, fun g hg => ?_, hrest⟩
      rcases List.mem_cons.1 hg with rfl | hg
      · exact hfirst
      · exact EffTime.before_trans hfirst (List.rel_of_pairwise_cons hrest hg)
    · rintro ⟨⟨hvalid, hvalids⟩, hfirst, hrest⟩
      exact ⟨⟨hvalid, hfirst f List.mem_cons_self⟩, hvalids, hrest⟩

/-- What is left of the queue in order, after any entries are taken out, is in order. -/
theorem schedOk_filter {q : List SchedEntry} (p : SchedEntry → Bool) (h : schedOk q = true) :
    schedOk (q.filter p) = true := by
  rw [schedOk_iff] at *
  exact ⟨fun e he => h.1 e (List.mem_of_mem_filter he), h.2.filter p⟩

/-- The order is one of the times alone. -/
theorem schedOk_map {q : List SchedEntry} {f : SchedEntry → SchedEntry} (hf : ∀ e, (f e).time = e.time)
    (h : schedOk q = true) : schedOk (q.map f) = true := by
  rw [schedOk_iff] at *
  refine ⟨fun e he => ?_, List.pairwise_map.2 (h.2.imp fun {e g} heg => ?_)⟩
  · obtain ⟨g, hg, rfl⟩ := List.mem_map.1 he
    exact hf g ▸ h.1 g hg
  · rwa [SchedEntry.earlier, hf, hf]

/-- The entry that none is later than is the last of a queue in order. -/
theorem getLast?_of_latest {q : List SchedEntry} (h : schedOk q = true) {e : SchedEntry} (he : e ∈ q)
    (hlatest : ∀ f ∈ q, f = e ∨ f.earlier e) : q.getLast? = some e := by
  obtain ⟨gs, hs, rfl⟩ := List.append_of_mem he
  cases hs with
  | nil => simp
  | cons f hs =>
    have horder := ((schedOk_iff _).1 h).2
    have hef : e.earlier f := List.rel_of_pairwise_cons (List.pairwise_append.1 horder).2.1 List.mem_cons_self
    rcases hlatest f (by simp) with rfl | hfe
    · exact absurd hef (EffTime.not_before_of_before hef)
    · exact absurd hfe (EffTime.not_before_of_before hef)

/-! ## An entry added (R138) -/

theorem mem_insertSched (e f : SchedEntry) (q : List SchedEntry) : f ∈ insertSched e q ↔ f = e ∨ f ∈ q := by
  induction q with
  | nil => simp [insertSched]
  | cons g q ih =>
    unfold insertSched
    split
    · rw [List.mem_cons, ih, List.mem_cons, or_left_comm]
    · exact List.mem_cons

theorem insertSched_length (e : SchedEntry) (q : List SchedEntry) : (insertSched e q).length = q.length + 1 := by
  induction q with
  | nil => rfl
  | cons g q ih =>
    unfold insertSched
    split
    · rw [List.length_cons, ih, List.length_cons]
    · rfl

/-- An entry of a new time is put where the order has it. -/
theorem schedOk_insertSched {e : SchedEntry} {q : List SchedEntry} (hvalid : e.time.valid = true)
    (hnew : ∀ f ∈ q, f.time ≠ e.time) (h : schedOk q = true) : schedOk (insertSched e q) = true := by
  rw [schedOk_iff] at *
  obtain ⟨hvalids, horder⟩ := h
  refine ⟨fun f hf => ((mem_insertSched e f q).1 hf).elim (fun hfe => hfe ▸ hvalid) (hvalids f), ?_⟩
  clear hvalids
  induction q with
  | nil => exact List.pairwise_singleton _ _
  | cons g q ih =>
    obtain ⟨hg, horder⟩ := List.pairwise_cons.1 horder
    obtain ⟨hnewg, hnew⟩ := List.forall_mem_cons.1 hnew
    unfold insertSched
    split
    · next hge =>
      refine List.pairwise_cons.2 ⟨fun f hf => ?_, ih hnew horder⟩
      rcases (mem_insertSched e f q).1 hf with rfl | hf
      · exact hge
      · exact hg f hf
    · next hge =>
      have heg : e.earlier g := EffTime.before_of_not_before hnewg hge
      refine List.pairwise_cons.2 ⟨fun f hf => ?_, List.pairwise_cons.2 ⟨hg, horder⟩⟩
      rcases List.mem_cons.1 hf with rfl | hf
      · exact heg
      · exact EffTime.before_trans heg (hg f hf)

/-- The queue with the entry of one time replaced. -/
def replaceSched (e : SchedEntry) (q : List SchedEntry) : List SchedEntry :=
  q.map fun f => if f.time = e.time then e else f

theorem mem_replaceSched {e : SchedEntry} {q : List SchedEntry} (h : ∃ f ∈ q, f.time = e.time) (f : SchedEntry) :
    f ∈ replaceSched e q ↔ f = e ∨ f.time ≠ e.time ∧ f ∈ q := by
  rw [replaceSched, List.mem_map]
  constructor
  · rintro ⟨g, hg, rfl⟩
    split
    · exact .inl rfl
    · next hne => exact .inr ⟨hne, hg⟩
  · rintro (rfl | ⟨hne, hf⟩)
    · obtain ⟨g, hg, htime⟩ := h
      exact ⟨g, hg, if_pos htime⟩
    · exact ⟨f, hf, if_neg hne⟩

theorem any_time_iff {q : List SchedEntry} {x : EffTime} :
    (q.any fun f => f.time == x) = true ↔ ∃ f ∈ q, f.time = x := by simp

/-- With 16 entries held, none of them of its time, there is no room for an entry. -/
theorem schedAdd_full {q : List SchedEntry} {e : SchedEntry} (hnew : ∀ f ∈ q, f.time ≠ e.time) (h : 16 ≤ q.length) :
    schedAdd q e = none := by
  rw [schedAdd, if_neg (by simpa using hnew), if_neg (by simpa [Config.queueSize] using h)]

/-- Any other entry is added, or replaces the one of its time. -/
theorem schedAdd_room {q : List SchedEntry} {e : SchedEntry} (h : (∃ f ∈ q, f.time = e.time) ∨ q.length < 16) :
    schedAdd q e = some (if q.any fun f => f.time == e.time then replaceSched e q else insertSched e q,
      q.any fun f => f.time == e.time) := by
  unfold schedAdd
  split
  · next hany => rw [hany]; rfl
  · next hany =>
    have hroom : q.length < Config.queueSize := h.resolve_left fun hheld => hany (any_time_iff.2 hheld)
    rw [if_pos hroom, Bool.eq_false_iff.2 hany]

/-- The queue an addition leaves holds the entry, keeps those of other times, and keeps its order and its bound. -/
theorem schedAdd_spec {q q' : List SchedEntry} {e : SchedEntry} {replaced : Bool}
    (h : schedAdd q e = some (q', replaced)) :
    e ∈ q' ∧ (∀ f, f.time ≠ e.time → (f ∈ q' ↔ f ∈ q)) ∧ (q.length ≤ 16 → q'.length ≤ 16) ∧
    (e.time.valid = true → schedOk q = true → schedOk q' = true) := by
  unfold schedAdd at h
  split at h
  · next hany =>
    obtain ⟨rfl, rfl⟩ := Prod.mk.inj (Option.some.inj h)
    have hmem := mem_replaceSched (any_time_iff.1 hany)
    refine ⟨(hmem e).2 (.inl rfl), fun f hf => ?_, fun hle => ?_, fun _ hok => ?_⟩
    · rw [← replaceSched, hmem f]
      exact ⟨fun g => g.elim (fun hfe => absurd (congrArg _ hfe) hf) And.right, fun g => .inr ⟨hf, g⟩⟩
    · rwa [List.length_map]
    · exact schedOk_map (fun f => by split <;> simp [*]) hok
  · next hany =>
    split at h
    · next hroom =>
      obtain ⟨rfl, rfl⟩ := Prod.mk.inj (Option.some.inj h)
      refine ⟨(mem_insertSched e e q).2 (.inl rfl), fun f hf => ?_, fun _ => ?_, fun hvalid hok => ?_⟩
      · rw [mem_insertSched, or_iff_right fun hfe => hf (congrArg _ hfe)]
      · rw [insertSched_length]
        exact hroom
      · exact schedOk_insertSched hvalid (fun f hf hfe => hany (any_time_iff.2 ⟨f, hf, hfe⟩)) hok
    · exact nomatch h

end Sys2Proof.Machine
end

section
/-! The requests TURBINE START, TURBINE STOP and TRIP RESET by turbine state (R146, R148, R152). -/

namespace Sys2Proof.Machine
open Sys2Proof

theorem turbineOf_turbineNumber (u : TurbineId) : turbineOf (field [byte (turbineNumber u)] 0 1) = some u := by
  cases u <;> rfl

theorem Block.onTurbine_byte (b : Block) (u : TurbineId) (f : TurbineId → Block × Reply) :
    b.onTurbine [byte (turbineNumber u)] f = f u := by
  simp only [Block.onTurbine, turbineOf_turbineNumber]

/-- A request whose owner changes the TDU's record alone is answered on the record changed. -/
theorem answered_of_modTdu {o : Host.Outcome State Fault Refusal} {s : State} {f : Tdu → Tdu} {k : ReqKind} {tag : Byte}
    {r : Reply} (h : s.block.linkIdle = true)
    (ho : o = .next (s.withBlock ((s.block.awaiting.modTdu f).replied k tag r))) :
    o = .next (s.withBlock ((s.block.modTdu f).place (replyFrame (byte k.code) tag r))) :=
  answered_of_unchanged (s := s.withBlock (s.block.modTdu f)) h ho

/-! ## TURBINE START (R146) -/

theorem exec_turbineStart {s : State} {u : TurbineId} (tag : Byte) {t : Block} {r : Reply}
    (h : s.block.linkIdle = true) (hserve : s.block.awaiting.serveTurbineStart u = (t, r)) :
    exec (.turbineStart tag (byte (turbineNumber u))) s = .next (s.withBlock (t.replied .turbineStart tag r)) :=
  submitKind_of_linkIdle tag h rfl ((Block.onTurbine_byte _ u _).trans hserve)

namespace Block
variable {b : Block} {u : TurbineId}

theorem bound_of_healthy {r : Role} (h : b.healthy r = true) : b.bound r = true := by
  unfold healthy at h
  split at h
  · next he => rw [bound, he]; rfl
  · exact nomatch h

/-- The first prerequisite unmet is the refusal (R146). -/
theorem serveTurbineStart_refuses {r : Reply} (hst : (b.turbine u).state = .offline) (hunmet : b.runupUnmet u = some r) :
    b.serveTurbineStart u = (b, r) := by
  simp only [serveTurbineStart, hst, hunmet]

theorem runupUnmet_unbound (h : b.bound (.turbine u) = false) : b.runupUnmet u = some (.refused .unbound 0) := by
  simp [runupUnmet, h, refuse]

theorem runupUnmet_lost (hbound : b.bound (.turbine u) = true) (h : b.healthy (.turbine u) = false) :
    b.runupUnmet u = some (.refused .notReady 7) := by
  simp [runupUnmet, hbound, h, notReady, NotReadyDetail.number]

theorem runupUnmet_inhibited (h : b.healthy (.turbine u) = true) (hinput : (b.turbine u).tripInput = true) :
    b.runupUnmet u = some (.refused .inhibited 0) := by
  simp [runupUnmet, bound_of_healthy h, h, hinput, refuse]

theorem runupUnmet_none (h : b.healthy (.turbine u) = true) (hinput : (b.turbine u).tripInput = false) :
    b.runupUnmet u = none := by
  simp [runupUnmet, bound_of_healthy h, h, hinput]

/-- With its prerequisites met an OFFLINE turbine enters RUNUP, with its timer and count at 0 (R146). -/
theorem serveTurbineStart_enters (hst : (b.turbine u).state = .offline) (hmet : b.runupUnmet u = none) :
    b.serveTurbineStart u =
      (b.modTurbine u fun x => { x with state := .runup, runup := 0, qual := 0 }, .done [byte 1]) := by
  simp [serveTurbineStart, hst, hmet, turbineDone, u8, TurbineState.code]

theorem serveTurbineStart_of_wrong (hst : (b.turbine u).state = .unloading ∨ (b.turbine u).state = .tripped) :
    b.serveTurbineStart u = (b, .refused .wrongState 0) := by
  rcases hst with hst | hst <;> simp only [serveTurbineStart, hst, refuse]

theorem serveTurbineStart_of_started (hst : (b.turbine u).state = .runup ∨ (b.turbine u).state = .online) :
    b.serveTurbineStart u = (b, .done [byte (b.turbine u).state.code]) := by
  rcases hst with hst | hst <;> simp only [serveTurbineStart, hst, turbineDone, u8]

/-! ## TURBINE STOP (R148) -/

theorem serveTurbineStop_of_started (hst : (b.turbine u).state = .runup ∨ (b.turbine u).state = .online) :
    b.serveTurbineStop u = (b.modTurbine u fun x =>
      { x with state := .unloading, runup := 0, qual := 0, frozen := false }, .done [byte 3]) := by
  rcases hst with hst | hst <;> simp [serveTurbineStop, hst, turbineDone, u8, TurbineState.code]

theorem serveTurbineStop_of_stopped
    (hst : (b.turbine u).state = .offline ∨ (b.turbine u).state = .unloading ∨ (b.turbine u).state = .tripped) :
    b.serveTurbineStop u = (b, .done [byte (b.turbine u).state.code]) := by
  rcases hst with hst | hst | hst <;> simp only [serveTurbineStop, hst, turbineDone, u8]

/-! ## TRIP RESET (R152) -/

theorem resetAllowed_iff : b.resetAllowed u = true ↔
    (b.turbine u).state = .tripped ∧ (b.turbine u).tripInput = false ∧
      ((b.turbine u).speed.status = .stopped ∨ (b.turbine u).speed.status = .valid ∧
        (b.turbine u).speed.rpm * 10 < (b.turbineParams u).ratedSpeed) := by
  simp [resetAllowed, and_assoc]

theorem serveTripReset_resets (h : b.resetAllowed u = true) :
    b.serveTripReset u = (b.modTurbine u fun x => { x with state := .offline }, .done [byte 0]) := by
  simp [serveTripReset, h, turbineDone, u8, TurbineState.code]

theorem serveTripReset_refuses (h : b.resetAllowed u = false) :
    b.serveTripReset u = (b, .refused .wrongState 0) := by
  simp [serveTripReset, h, refuse]

end Block

theorem exec_turbineStop {s : State} {u : TurbineId} (tag : Byte) {t : Block} {r : Reply} (h : s.block.linkIdle = true)
    (hserve : s.block.awaiting.serveTurbineStop u = (t, r)) :
    exec (.turbineStop tag (byte (turbineNumber u))) s = .next (s.withBlock (t.replied .turbineStop tag r)) :=
  submitKind_of_linkIdle tag h rfl ((Block.onTurbine_byte _ u _).trans hserve)

theorem exec_tripReset {s : State} {u : TurbineId} (tag : Byte) {t : Block} {r : Reply} (h : s.block.linkIdle = true)
    (hserve : s.block.awaiting.serveTripReset u = (t, r)) :
    exec (.tripReset tag (byte (turbineNumber u))) s = .next (s.withBlock (t.replied .tripReset tag r)) :=
  submitKind_of_linkIdle tag h rfl ((Block.onTurbine_byte _ u _).trans hserve)

/-- Settles O27: each state's outcome, and in OFFLINE the first prerequisite unmet. -/
theorem turbineStartAndStop : Obligations.TurbineStartAndStop := by
  unfold Obligations.TurbineStartAndStop
  refine ⟨?start, ?stop⟩
  case start =>
    intro s tag u h i x refused
    have unmet {c : RefusalCode} {d : Nat} (hst : x.state = .offline)
        (hr : s.block.runupUnmet u = some (.refused c d)) : refused c d :=
      answered_of_unchanged h (exec_turbineStart tag h
        (Block.serveTurbineStart_refuses (b := s.block.awaiting) hst hr))
    refine ⟨fun hst hbound => unmet hst (Block.runupUnmet_unbound hbound),
      fun hst hbound hlost => unmet hst (Block.runupUnmet_lost hbound hlost),
      fun hst hhealthy hinput => unmet hst (Block.runupUnmet_inhibited hhealthy hinput), fun hst => ?wrong,
      fun hst => ?same, fun hst hhealthy hinput => ?enters⟩
    case wrong =>
      exact answered_of_unchanged h (exec_turbineStart tag h
        (Block.serveTurbineStart_of_wrong (b := s.block.awaiting) hst))
    case same =>
      exact answered_of_unchanged h (exec_turbineStart tag h
        (Block.serveTurbineStart_of_started (b := s.block.awaiting) hst))
    case enters =>
      exact answered_of_modTdu h (exec_turbineStart tag h (Block.serveTurbineStart_enters (b := s.block.awaiting) hst
        (Block.runupUnmet_none (b := s.block.awaiting) hhealthy hinput)))
  case stop =>
    intro s tag u h i x
    refine ⟨fun hst => ?started, fun hst => ?stopped⟩
    case started =>
      exact answered_of_modTdu h (exec_turbineStop tag h
        (Block.serveTurbineStop_of_started (b := s.block.awaiting) hst))
    case stopped =>
      exact answered_of_unchanged h (exec_turbineStop tag h
        (Block.serveTurbineStop_of_stopped (b := s.block.awaiting) hst))

/-- Settles O28: the condition of R152 is the one the request is served by. -/
theorem tripResetNeedsALowSpeed : Obligations.TripResetNeedsALowSpeed := by
  unfold Obligations.TripResetNeedsALowSpeed
  intro s tag u h i x ok
  have hok : s.block.awaiting.resetAllowed u = true ↔ ok := Block.resetAllowed_iff
  refine ⟨fun hlow => ?resets, fun hnot => ?refuses⟩
  case resets =>
    exact answered_of_modTdu h (exec_tripReset tag h (Block.serveTripReset_resets (hok.2 hlow)))
  case refuses =>
    exact answered_of_unchanged h (exec_tripReset tag h
      (Block.serveTripReset_refuses (Bool.eq_false_iff.2 fun hallowed => hnot (hok.1 hallowed))))

end Sys2Proof.Machine
end

section
/-! Trips: the turbine tripped, the fast bypass transfer, and what a trip leaves alone (R133, R150, R151). -/

namespace Sys2Proof.Machine
open Sys2Proof

namespace Block
variable {b : Block} {u : TurbineId} {c : TripCause}

theorem trippable_iff (st : TurbineState) : TurbineState.trippable st = true ↔ st = .runup ∨ st = .online ∨ st = .unloading := by
  cases st <;> simp [TurbineState.trippable]

theorem not_trippable_iff (st : TurbineState) : TurbineState.trippable st = false ↔ st = .offline ∨ st = .tripped := by
  cases st <;> simp [TurbineState.trippable]

@[simp] theorem raise_turbine (b : Block) (k : NoticeKind) (n : Nat) (d : List Byte) (v : TurbineId) :
    (b.raise k n d).turbine v = b.turbine v := by simp [turbine]

@[simp] theorem fastTransfer_turbine (b : Block) (n : Nat) (v : TurbineId) :
    (b.fastTransfer n).turbine v = b.turbine v := rfl

theorem trip_of_not_trippable (h : TurbineState.trippable (b.turbine u).state = false) : b.trip u c = b := by
  simp [trip, h]

/-- The tripped turbine's record (R151). -/
theorem trip_turbine (h : TurbineState.trippable (b.turbine u).state = true) :
    (b.trip u c).turbine u = { b.turbine u with
      state := .tripped, setpoint := 0, runup := 0, qual := 0, frozen := false
      lastTrip := some ⟨c, (b.turbine u).state, b.now⟩, trips := min 65535 ((b.turbine u).trips + 1) } := by
  simp only [trip, h, if_true, raise_turbine, modTurbine_turbine_self, fastTransfer_turbine]
  rfl

theorem trip_turbine_of_ne {v : TurbineId} (h : v ≠ u) : (b.trip u c).turbine v = b.turbine v := by
  simp only [trip]
  split
  · rw [raise_turbine, modTurbine_turbine_of_ne _ _ h, fastTransfer_turbine]
  · rfl

/-- The bypass takes the steam the turbine drops, as far as its maximum goes (R133). -/
theorem trip_blu (h : TurbineState.trippable (b.turbine u).state = true) : (b.trip u c).blu = { b.blu with
    setpoint := min (b.blu.setpoint + (b.turbine u).setpoint) b.cmc.params.plant.bypassMax } := by
  simp [trip, h, fastTransfer]

theorem trip_pendingWith (h : TurbineState.trippable (b.turbine u).state = true) :
    (b.trip u c).pendingWith .turbineTrip (turbineNumber u) [byte c.code, byte (b.turbine u).state.code] := by
  simp only [trip, h, if_true]
  exact raise_pendingWith _ _ _ _

end Block

theorem exec_tripAssert (s : State) (u : TurbineId) : exec (.tripAssert u) s =
    .next (s.withBlock (if (s.block.turbine u).tripInput then s.block else s.block.tripAsserted u)) := rfl

/-- Settles O30: the input's level, then the trip where the turbine's state is one of R150. -/
theorem tripAssertionTrips : Obligations.TripAssertionTrips := by
  unfold Obligations.TripAssertionTrips
  intro s u x
  have hexec (hinput : x.tripInput = false) : exec (.tripAssert u) s =
      .next (s.withBlock ((s.block.modTurbine u fun x => { x with tripInput := true }).trip u .input)) := by
    rw [exec_tripAssert, if_neg (Bool.eq_false_iff.1 hinput), Block.tripAsserted]
  refine ⟨⟨_, rfl, rfl⟩, fun hinput => ?again, fun hinput hst => ?level, fun hinput hst => ?trips⟩
  case again =>
    rw [exec_tripAssert, if_pos hinput]
    rfl
  case level =>
    rw [hexec hinput, Block.trip_of_not_trippable]
    rw [Block.modTurbine_turbine_self]
    exact (Block.not_trippable_iff _).2 hst
  case trips =>
    have htrips : Block.TurbineState.trippable
        ((s.block.modTurbine u fun x => { x with tripInput := true }).turbine u).state = true := by
      rw [Block.modTurbine_turbine_self]
      exact (Block.trippable_iff _).2 hst
    have hturbine := Block.trip_turbine (c := .input) htrips
    have hblu := Block.trip_blu (c := .input) htrips
    have htold := Block.trip_pendingWith (c := .input) htrips
    rw [Block.modTurbine_turbine_self] at hturbine hblu htold
    refine ⟨_, hexec hinput, hturbine, hblu, fun v hv => ?others, htold, ?_⟩
    case others =>
      rw [State.withBlock_block, Block.trip_turbine_of_ne hv, Block.modTurbine_turbine_of_ne _ _ hv]
    simp

end Sys2Proof.Machine
end

section
/-! The speed measured at a rising edge, the overspeed trip, and the overflow of the count (R154 to R157). -/

namespace Sys2Proof.Machine
open Sys2Proof

/-! ## A period on the speed record (R155, R157) -/

/-- The speed of a period of at least one reference cycle (R155). -/
theorem periodSpeed_of_pos (range : SpeedRange) {c : Nat} (teeth : Nat) (hc : 1 ≤ c) :
    periodSpeed range c teeth = 60 * (if range = .fast then 1000000 else 62500) / (c * teeth) := by
  rw [periodSpeed, if_neg (by omega)]
  cases range <;> rfl

theorem storedRpm_of_le {v : Nat} (h : v ≤ 65535) : storedRpm v = v := if_pos h

section
variable {s : Speed} {c teeth overspeed : Nat}

/-- A period of SLOW too short for it, which moves the range to FAST (R155, step 3). -/
def Speed.short (s : Speed) (c : Nat) : Bool := s.range == .slow && decide (c < 4096)

theorem Speed.short_iff : s.short c = true ↔ s.range = .slow ∧ c < 4096 := by simp [Speed.short]

theorem Speed.completePeriod_overCount : (s.completePeriod c teeth overspeed).overCount =
    if overspeed < periodSpeed s.range c teeth then min 2 (s.overCount + 1) else 0 := rfl

/-- A period after an earlier complete one gives the speed (R155). -/
theorem Speed.completePeriod_later (h : 1 ≤ s.periods) : s.completePeriod c teeth overspeed =
    ⟨if s.short c then .fast else s.range, true, 0, if s.short c then 0 else 2, .valid,
      storedRpm (periodSpeed s.range c teeth), (s.completePeriod c teeth overspeed).overCount⟩ := by
  have hperiods : satAdd 2 s.periods 1 = 2 := min_eq_left (by omega)
  simp only [Speed.completePeriod, Speed.short, hperiods, if_true]
  rfl

/-- A first period keeps rpm, and in FAST the status too (R155, step 4). -/
theorem Speed.completePeriod_first (h : s.periods = 0) : s.completePeriod c teeth overspeed =
    ⟨if s.short c then .fast else s.range, true, 0, if s.short c then 0 else 1,
      if s.range = .fast then s.status else .measuring, s.rpm,
      (s.completePeriod c teeth overspeed).overCount⟩ := by
  simp only [Speed.completePeriod, Speed.short, h, satAdd]
  rfl

end

/-! ## The edge in the part -/

namespace Block
variable {b : Block} {u : TurbineId} {n : Nat}

/-- The part with the period an edge completes taken into the turbine's speed record (R155). -/
def measured (b : Block) (u : TurbineId) (n : Nat) : Block := b.modTurbine u fun x =>
  { x with speed := x.speed.completePeriod (x.speed.count + n) (b.turbineParams u).teeth (b.turbineParams u).overspeed }

theorem measured_turbine (b : Block) (u : TurbineId) (n : Nat) : (b.measured u n).turbine u = { b.turbine u with
    speed := (b.turbine u).speed.completePeriod ((b.turbine u).speed.count + n) (b.turbineParams u).teeth
      (b.turbineParams u).overspeed } := modTurbine_turbine_self _ _ _

theorem risingEdge_starts (h : (b.turbine u).speed.timing = false) : b.risingEdge u n =
    b.modTurbine u fun x => { x with speed := { x.speed with timing := true, count := 0 } } := by
  simp only [risingEdge, h]
  rfl

/-- An edge that completes a period: the speed is measured, and an over count of 2 trips (R155, R157). -/
theorem risingEdge_completes (h : (b.turbine u).speed.timing = true) (hc : (b.turbine u).speed.count + n ≤ 65535) :
    b.risingEdge u n = if ((b.measured u n).turbine u).speed.overCount = 2 then (b.measured u n).trip u .overspeed
      else b.measured u n := by
  simp only [risingEdge, h, if_true, if_pos (show (b.turbine u).speed.count + n ≤ Config.max16 from hc),
    measured_turbine]
  rfl

/-- A trip leaves the speed as measured. -/
theorem risingEdge_speed (h : (b.turbine u).speed.timing = true) (hc : (b.turbine u).speed.count + n ≤ 65535) :
    ((b.risingEdge u n).turbine u).speed = ((b.measured u n).turbine u).speed := by
  rw [risingEdge_completes h hc]
  split
  · cases htrips : TurbineState.trippable ((b.measured u n).turbine u).state with
    | true => rw [trip_turbine htrips]
    | false => rw [trip_of_not_trippable htrips]
  · rfl

theorem speedOverflow_timing (h : (b.turbine u).speed.timing = true) :
    b.speedOverflow u = b.modTurbine u fun x => { x with speed := x.speed.overflow } := by
  have hget : (b.tdu.turbines.get u).speed.timing = true := h
  simp only [speedOverflow, modTurbine, modTdu, hget, if_true]

end Block

theorem exec_spdRisingEdge (s : State) (u : TurbineId) (n : Nat) :
    exec (.spdRisingEdge u n) s = .next (s.withBlock (s.block.risingEdge u n)) := rfl

theorem exec_speedCountOverflow (s : State) (u : TurbineId) :
    exec (.speedCountOverflow u) s = .next (s.withBlock (s.block.speedOverflow u)) := rfl

/-- Settles O31: an edge that starts a period, one that completes it, and the count that overflows. -/
theorem speedIsMeasured : Obligations.SpeedIsMeasured := by
  unfold Obligations.SpeedIsMeasured
  intro s u n x p c v many up
  refine ⟨fun htiming => ?starts, fun htiming hpos hfit => ?completes, fun htiming hrange => ?fast,
    fun htiming hrange => ?slow⟩
  case starts => rw [exec_spdRisingEdge, Block.risingEdge_starts htiming]
  case completes =>
    have hv : periodSpeed x.speed.range c p.teeth = v := periodSpeed_of_pos _ _ hpos
    have hmany : (x.speed.completePeriod c p.teeth p.overspeed).overCount = many := by
      rw [Speed.completePeriod_overCount, hv]
    have hspeed : ((s.block.risingEdge u n).turbine u).speed = x.speed.completePeriod c p.teeth p.overspeed := by
      rw [Block.risingEdge_speed htiming hfit, Block.measured_turbine]
    have hedge := Block.risingEdge_completes htiming hfit
    rw [Block.measured_turbine, hmany] at hedge
    refine ⟨_, exec_spdRisingEdge s u n, ?_⟩
    rw [State.withBlock_block]
    intro y
    refine ⟨fun hlater hle hup => ?_, fun hlater hle hup => ?_, fun hfirst hrange => ?_, fun hfirst hrange hlong => ?_,
      fun hfirst hup => ?_, fun htwo hst => ?trips, fun hnot => ?kept, by simp⟩
    · rw [hspeed, Speed.completePeriod_later hlater, hmany, hv, storedRpm_of_le hle, if_neg, if_neg] <;>
        rwa [Speed.short_iff]
    · rw [hspeed, Speed.completePeriod_later hlater, hmany, hv, storedRpm_of_le hle, if_pos, if_pos] <;>
        rwa [Speed.short_iff]
    · have hshort : ¬x.speed.short c = true := by simp [Speed.short_iff, hrange]
      rw [hspeed, Speed.completePeriod_first hfirst, hmany, if_neg hshort, if_neg hshort, if_pos hrange, hrange]
    · have hshort : ¬x.speed.short c = true := by simp [Speed.short_iff, hlong]
      rw [hspeed, Speed.completePeriod_first hfirst, hmany, if_neg hshort, if_neg hshort, if_neg (by simp [hrange]),
        hrange]
    · have hshort : x.speed.short c = true := Speed.short_iff.2 hup
      rw [hspeed, Speed.completePeriod_first hfirst, hmany, if_pos hshort, if_pos hshort, if_neg (by simp [hup.1])]
    case trips =>
      have htrips : Block.TurbineState.trippable ((s.block.measured u n).turbine u).state = true := by
        rw [Block.measured_turbine]
        exact (Block.trippable_iff _).2 hst
      have hturbine := Block.trip_turbine (c := .overspeed) htrips
      have htold := Block.trip_pendingWith (c := .overspeed) htrips
      rw [Block.measured_turbine] at hturbine htold
      have hy : y = _ := (congrArg (Block.turbine · u) (hedge.trans (if_pos htwo))).trans hturbine
      rw [hy, hedge, if_pos htwo]
      exact ⟨rfl, rfl, rfl, htold⟩
    case kept =>
      have hkept : s.block.risingEdge u n = s.block.measured u n := by
        rw [hedge]
        split
        · next htwo =>
          refine Block.trip_of_not_trippable ((Block.not_trippable_iff _).2 ?_)
          rw [Block.measured_turbine]
          exact hnot.resolve_left (by omega)
        · rfl
      have hy : y = (s.block.measured u n).turbine u := congrArg (Block.turbine · u) hkept
      rw [hy, hkept, Block.measured_turbine]
      exact ⟨rfl, rfl, rfl⟩
  case fast =>
    have hget : (s.block.tdu.turbines.get u).speed.range = .fast := hrange
    rw [exec_speedCountOverflow, Block.speedOverflow_timing htiming]
    simp only [Block.modTurbine, Block.modTdu, Speed.overflow, hget]
    rfl
  case slow =>
    have hget : (s.block.tdu.turbines.get u).speed.range = .slow := hrange
    rw [exec_speedCountOverflow, Block.speedOverflow_timing htiming]
    simp only [Block.modTurbine, Block.modTdu, Speed.overflow, hget]
    rfl

end Sys2Proof.Machine
end

section
/-! The requests SCHEDULE ADD, SCHEDULE CANCEL and SCHEDULE LIST (R138, R139). -/

namespace Sys2Proof.Machine
open Sys2Proof

/-- A two-byte field at the front of a payload reads back as the host sent it (R191). -/
theorem field_wire16_front (v : Word16) (p : List Byte) : field (wire16 v ++ p) 0 2 = v.toNat := field_wire16 0 v p

theorem scheduleCancel_fields (y d m : Word16) :
    field (wire16 y ++ wire16 d ++ wire16 m) 0 2 = y.toNat ∧ field (wire16 y ++ wire16 d ++ wire16 m) 2 2 = d.toNat ∧
    field (wire16 y ++ wire16 d ++ wire16 m) 4 2 = m.toNat :=
  ⟨field_wire16_front y _, field_wire16_front d (wire16 m), field_wire16_front m []⟩

theorem scheduleAdd_fields (y d m p h : Word16) :
    let w := wire16 y ++ wire16 d ++ wire16 m ++ wire16 p ++ wire16 h
    field w 0 2 = y.toNat ∧ field w 2 2 = d.toNat ∧ field w 4 2 = m.toNat ∧ field w 6 2 = p.toNat ∧
    field w 8 2 = h.toNat :=
  ⟨field_wire16_front y _, field_wire16_front d (wire16 m ++ wire16 p ++ wire16 h),
    field_wire16_front m (wire16 p ++ wire16 h), field_wire16_front p (wire16 h), field_wire16_front h []⟩

theorem exec_scheduleAdd {s : State} (tag : Byte) {y d m p h : Word16} {t : Block} {r : Reply}
    (hidle : s.block.linkIdle = true)
    (hserve : s.block.awaiting.serveScheduleAdd ⟨y.toNat, d.toNat, m.toNat⟩ p.toNat h.toNat = (t, r)) :
    exec (.scheduleAdd tag y d m p h) s = .next (s.withBlock (t.replied .scheduleAdd tag r)) := by
  refine submitKind_of_linkIdle tag hidle rfl ?_
  obtain ⟨hy, hd, hm, hp, hh⟩ := scheduleAdd_fields y d m p h
  unfold Block.serveKind
  dsimp only
  rw [hy, hd, hm, hp, hh, hserve]

theorem exec_scheduleCancel {s : State} (tag : Byte) {y d m : Word16} {t : Block} {r : Reply}
    (hidle : s.block.linkIdle = true)
    (hserve : s.block.awaiting.serveScheduleCancel ⟨y.toNat, d.toNat, m.toNat⟩ = (t, r)) :
    exec (.scheduleCancel tag y d m) s = .next (s.withBlock (t.replied .scheduleCancel tag r)) := by
  refine submitKind_of_linkIdle tag hidle rfl ?_
  obtain ⟨hy, hd, hm⟩ := scheduleCancel_fields y d m
  unfold Block.serveKind
  dsimp only
  rw [hy, hd, hm, hserve]

theorem exec_scheduleList {s : State} (tag : Byte) {t : Block} {r : Reply} (hidle : s.block.linkIdle = true)
    (hserve : s.block.awaiting.serveScheduleList = (t, r)) :
    exec (.scheduleList tag) s = .next (s.withBlock (t.replied .scheduleList tag r)) :=
  submitKind_of_linkIdle tag hidle rfl hserve

namespace Block
variable {b : Block} {x : EffTime} {p h : Nat}

theorem serveScheduleAdd_of_invalid (hx : x.valid = false) : b.serveScheduleAdd x p h = (b, .refused .range 0) := by
  simp [serveScheduleAdd, hx, refuse]

theorem serveScheduleAdd_full (hx : x.valid = true) (hadd : schedAdd b.tdu.queue ⟨x, min p 1000, min h 600⟩ = none) :
    b.serveScheduleAdd x p h = (b, .refused .full 0) := by
  simp [serveScheduleAdd, hx, hadd, refuse]

theorem serveScheduleAdd_added {q : List SchedEntry} {replaced : Bool} (hx : x.valid = true)
    (hadd : schedAdd b.tdu.queue ⟨x, min p 1000, min h 600⟩ = some (q, replaced)) :
    b.serveScheduleAdd x p h = (b.modTdu fun x => { x with queue := q },
      .done (u8 (if replaced then 0 else 1) ++ (SchedEntry.mk x (min p 1000) (min h 600)).encode ++ u8 q.length)) := by
  simp [serveScheduleAdd, hx, hadd]

theorem serveScheduleCancel_of_invalid (hx : x.valid = false) :
    b.serveScheduleCancel x = (b, .refused .range 0) := by
  simp [serveScheduleCancel, hx, refuse]

theorem serveScheduleCancel_of_valid (hx : x.valid = true) : b.serveScheduleCancel x =
    (b.modTdu fun t => { t with queue := b.tdu.queue.filter fun e => e.time.before x },
      .done [byte (b.tdu.queue.length - (b.tdu.queue.filter fun e => e.time.before x).length),
        byte (b.tdu.queue.filter fun e => e.time.before x).length]) := by
  simp [serveScheduleCancel, hx, u8]

end Block

/-- An accepted SCHEDULE ADD on an idle link: the queue it leaves, and nothing else but the reply (R138). -/
theorem scheduleAdd_accepted (s : State) (tag : Byte) (y d m p h : Word16) (hidle : s.block.linkIdle = true) :
    let x : EffTime := ⟨y.toNat, d.toNat, m.toNat⟩
    let q := s.block.tdu.queue
    let e : SchedEntry := ⟨x, min p.toNat 1000, min h.toNat 600⟩
    x.valid = true → ((∃ f ∈ q, f.time = x) ∨ q.length < 16) → ∃ t, exec (.scheduleAdd tag y d m p h) s = .next t ∧
      e ∈ t.block.tdu.queue ∧ (∀ f, f.time ≠ x → (f ∈ t.block.tdu.queue ↔ f ∈ q)) ∧
      (schedOk q = true → q.length ≤ 16 →
        schedOk t.block.tdu.queue = true ∧ t.block.tdu.queue.length ≤ 16) ∧
      t.block.tdu = { s.block.tdu with queue := t.block.tdu.queue } ∧
      t.block.lines = s.block.lines ∧ t.block.bus = s.block.bus ∧ t.block.clock = s.block.clock ∧
      s.block.onlyReplied t.block .scheduleAdd tag (.done (byte (if q.any fun f => f.time == x then 0 else 1) ::
        (u16 y.toNat ++ u16 d.toNat ++ u16 m.toNat ++ u16 e.p ++ u16 e.h ++ [byte t.block.tdu.queue.length]))) := by
  intro x q e hx hroom
  have hadd := schedAdd_room (e := e) hroom
  obtain ⟨hmem, hothers, hlength, horder⟩ := schedAdd_spec hadd
  refine ⟨_, exec_scheduleAdd tag hidle (Block.serveScheduleAdd_added (b := s.block.awaiting) hx hadd), hmem, hothers,
    fun hok hle => ⟨horder hx hok, hlength hle⟩, rfl, rfl, rfl, rfl, ?_⟩
  exact s.block.replied_onlyReplied hidle ⟨rfl, rfl, rfl⟩ _ _ _

/-- Settles O33: what is earlier than the time stays, and the list is the record as it stands. -/
theorem scheduleCancelAndList : Obligations.ScheduleCancelAndList := by
  unfold Obligations.ScheduleCancelAndList
  intro s tag hidle
  refine ⟨fun y d m => ?cancel, ?list⟩
  case cancel =>
    intro i x kept
    refine ⟨fun hx => ?_, fun hx => ?_⟩
    · exact answered_of_unchanged hidle (exec_scheduleCancel tag hidle
        (Block.serveScheduleCancel_of_invalid (b := s.block.awaiting) hx))
    · exact answered_of_modTdu hidle (exec_scheduleCancel tag hidle
        (Block.serveScheduleCancel_of_valid (b := s.block.awaiting) hx))
  case list => exact answered_of_unchanged hidle (exec_scheduleList tag hidle rfl)

end Sys2Proof.Machine
end

section
/-! What leaves the dispatch queue as it is: every operation of the plant and the stations but the queue's own (R137,
R138 to R140). -/

namespace Sys2Proof.Machine
open Sys2Proof
namespace Block
variable (b : Block)

/-! ## Turbines and the balance cycle -/

@[simp] theorem modTurbine_queue (u : TurbineId) (f : Turbine → Turbine) :
    (b.modTurbine u f).tdu.queue = b.tdu.queue := rfl

@[simp] theorem trip_queue (u : TurbineId) (c : TripCause) : (b.trip u c).tdu.queue = b.tdu.queue := by
  unfold trip
  dsimp only
  split <;> simp

@[simp] theorem tryOnline_queue (u : TurbineId) : (b.tryOnline u).tdu.queue = b.tdu.queue := by
  unfold tryOnline
  dsimp only
  split <;> simp

@[simp] theorem tryRunupTimeout_queue (u : TurbineId) : (b.tryRunupTimeout u).tdu.queue = b.tdu.queue := by
  unfold tryRunupTimeout
  dsimp only
  split <;> simp

@[simp] theorem turbineTick_queue (u : TurbineId) : (b.turbineTick u).tdu.queue = b.tdu.queue := by
  unfold turbineTick
  dsimp only
  split
  · split <;> simp
  · rfl

@[simp] theorem tripAsserted_queue (u : TurbineId) : (b.tripAsserted u).tdu.queue = b.tdu.queue := by
  simp [tripAsserted]

@[simp] theorem risingEdge_queue (u : TurbineId) (n : Nat) : (b.risingEdge u n).tdu.queue = b.tdu.queue := by
  unfold risingEdge
  dsimp only
  (repeat' split) <;> simp

@[simp] theorem convert_queue : b.convert.tdu.queue = b.tdu.queue := rfl

@[simp] theorem moveSetpoints_queue (x y : Nat) : (b.moveSetpoints x y).tdu.queue = b.tdu.queue := rfl

/-- Of a balance cycle the queue's own part alone changes the queue (R140). -/
theorem balanceCycle_queue : b.balanceCycle.tdu.queue = b.applyQueue.tdu.queue := by
  simp [balanceCycle, allLines]

/-! ## Stations and roles -/

@[simp] theorem deliverReply_queue (r : Role) (p : List Byte) (returned : Bool) :
    (b.deliverReply r p returned).tdu.queue = b.tdu.queue := by
  cases r with
  | turbine u => rfl
  | feeder l | furnace l | dosing l | header | bypass => simp [deliverReply]
  | analyzerA l | analyzerB l => cases returned <;> simp [deliverReply]

@[simp] theorem deliverLoss_queue (r : Role) : (b.deliverLoss r).tdu.queue = b.tdu.queue := by
  cases r with
  | turbine u => rfl
  | feeder l | furnace l | dosing l | header | bypass | analyzerA l | analyzerB l => simp [deliverLoss]

@[simp] theorem deliverBinding_queue (r : Role) (lost : Bool) : (b.deliverBinding r lost).tdu.queue = b.tdu.queue := by
  cases r with
  | turbine u => rfl
  | feeder l | furnace l | dosing l | header | bypass | analyzerA l | analyzerB l => simp [deliverBinding]

@[simp] theorem deliverUnbinding_queue (r : Role) : (b.deliverUnbinding r).tdu.queue = b.tdu.queue := by
  cases r with
  | turbine u => rfl
  | feeder l | furnace l | dosing l | header | bypass | analyzerA l | analyzerB l => simp [deliverUnbinding]

@[simp] theorem bindRole_queue (e : Station) (r : Role) : (b.bindRole e r).tdu.queue = b.tdu.queue := by
  simp [bindRole]

@[simp] theorem unbindRole_queue (e : Station) (r : Role) : (b.unbindRole e r).tdu.queue = b.tdu.queue := by
  simp [unbindRole]

@[simp] theorem pollOutcome_queue (n : Nat) (o : PollOutcome) (p : List Byte) :
    (b.pollOutcome n o p).tdu.queue = b.tdu.queue := by
  unfold pollOutcome pollGood pollFailed
  (repeat' split) <;> simp

@[simp] theorem applyStored_queue (e : Station) : (b.applyStored e).tdu.queue = b.tdu.queue := by
  unfold applyStored
  (repeat' split) <;> simp

@[simp] theorem assignOutcome_queue (o : PollOutcome) : (b.assignOutcome o).tdu.queue = b.tdu.queue := by
  unfold assignOutcome assignGood
  (repeat' split) <;> simp

@[simp] theorem decideAnswer_queue (x : Transaction) (o : PollOutcome) (p : List Byte) :
    (b.decideAnswer x o p).tdu.queue = b.tdu.queue := by
  unfold decideAnswer
  (repeat' split) <;> simp

@[simp] theorem answerChar_queue (x : Transaction) (c : BusChar) : (b.answerChar x c).tdu.queue = b.tdu.queue := by
  unfold answerChar
  dsimp only
  (repeat' split) <;> simp

@[simp] theorem busChar_queue (c : BusChar) : (b.busChar c).tdu.queue = b.tdu.queue := by
  unfold busChar
  (repeat' split) <;> simp

@[simp] theorem decideNow_queue (o : PollOutcome) : (b.decideNow o).tdu.queue = b.tdu.queue := by
  unfold decideNow
  split <;> simp

/-! ## Requests, the host link and the inputs -/

@[simp] theorem serveTurbineStart_queue (u : TurbineId) : (b.serveTurbineStart u).1.tdu.queue = b.tdu.queue := by
  unfold serveTurbineStart turbineDone
  (repeat' split) <;> simp

@[simp] theorem serveTurbineStop_queue (u : TurbineId) : (b.serveTurbineStop u).1.tdu.queue = b.tdu.queue := by
  unfold serveTurbineStop turbineDone
  split <;> simp

@[simp] theorem serveTripReset_queue (u : TurbineId) : (b.serveTripReset u).1.tdu.queue = b.tdu.queue := by
  unfold serveTripReset turbineDone
  split <;> simp

@[simp] theorem serveStationBind_queue (n : Nat) (r : Role) : (b.serveStationBind n r).1.tdu.queue = b.tdu.queue := by
  unfold serveStationBind
  (repeat' split) <;> simp

@[simp] theorem serveStationUnbind_queue (r : Role) : (b.serveStationUnbind r).1.tdu.queue = b.tdu.queue := by
  unfold serveStationUnbind
  (repeat' split) <;> simp

@[simp] theorem serveStationForget_queue (n : Nat) : (b.serveStationForget n).1.tdu.queue = b.tdu.queue := by
  unfold serveStationForget forgetStation removeStation
  (repeat' split) <;> simp

@[simp] theorem linkError_tdu (c : LinkErrorCause) (n : Nat) : (b.linkError c n).tdu = b.tdu := by
  simp [linkError]

@[simp] theorem checkFrame_tdu : b.checkFrame.tdu = b.tdu := by
  unfold checkFrame
  split <;> simp

@[simp] theorem assemble_tdu (v : Byte) : (b.assemble v).tdu = b.tdu := by
  unfold assemble
  dsimp only
  (repeat' split) <;> simp

@[simp] theorem receive_tdu (v : Byte) : (b.receive v).tdu = b.tdu := by
  unfold receive byteWhenFull
  (repeat' split) <;> simp

@[simp] theorem takeInputs_queue (x y z : Bool) : (b.takeInputs x y z).tdu.queue = b.tdu.queue := by
  have htrip (b : Block) (low : Bool) (u : TurbineId) :
      (if low then b.tripAsserted u else b.tripReleased u).tdu.queue = b.tdu.queue := by
    split
    · exact b.tripAsserted_queue u
    · rfl
  unfold takeInputs
  dsimp only
  rw [htrip, htrip]
  split
  · simp
  · rfl

@[simp] theorem loadConfiguration_tdu (answers : Bool) : (b.loadConfiguration answers).tdu = b.tdu := by
  unfold loadConfiguration applyLoad
  split <;> simp [defaulted]

@[simp] theorem writeDone_tdu (bad : List (Nat × Byte)) : (b.writeDone bad).tdu = b.tdu := by
  unfold writeDone
  split <;> simp

@[simp] theorem verifyDone_tdu : b.verifyDone.tdu = b.tdu := by
  unfold verifyDone
  (repeat' split) <;> simp

end Block

/-- A delivery taken by an owner other than the BLU leaves the queue. -/
@[simp] theorem Job.act_queue (j : Job) (b : Block) : (j.act b).tdu.queue = b.tdu.queue := by
  unfold Job.act
  split <;> simp

end Sys2Proof.Machine
end

section
/-! Every step keeps the dispatch queue in strictly rising order with at most 16 entries (R137). -/

namespace Sys2Proof.Machine
open Sys2Proof

/-! ## A request that names an object acts on one, or is refused (R194) -/

namespace Block
variable {b : Block} {P : Block → Prop}

theorem onLine_keeps {p : List Byte} {f : LineId → Block × Reply} (h : P b) (hf : ∀ l, P (f l).1) :
    P (b.onLine p f).1 := by
  unfold onLine
  split
  · exact hf _
  · exact h

theorem onTurbine_keeps {p : List Byte} {f : TurbineId → Block × Reply} (h : P b) (hf : ∀ u, P (f u).1) :
    P (b.onTurbine p f).1 := by
  unfold onTurbine
  split
  · exact hf _
  · exact h

theorem onStation_keeps {n : Nat} {f : Nat → Block × Reply} (h : P b) (hf : ∀ n, P (f n).1) :
    P (b.onStation n f).1 := by
  unfold onStation
  split
  · exact hf _
  · exact h

theorem onRole_keeps {n : Nat} {f : Role → Block × Reply} (h : P b) (hf : ∀ r, P (f r).1) :
    P (b.onRole n f).1 := by
  unfold onRole
  split
  · exact hf _
  · exact h

/-- The dispatch queue is as R137 has it. -/
def Scheduled (b : Block) : Prop := QueueOk b.tdu.queue

namespace Scheduled
variable {b t : Block}

theorem of_queue (h : Scheduled b) (hq : t.tdu.queue = b.tdu.queue) : Scheduled t :=
  ⟨hq ▸ h.order, hq ▸ h.bound⟩

/-- Entries taken out leave the queue in order. -/
theorem of_filter (h : Scheduled b) (p : SchedEntry → Bool) (hq : t.tdu.queue = b.tdu.queue.filter p) :
    Scheduled t :=
  ⟨hq ▸ schedOk_filter p h.order, hq ▸ (List.length_filter_le _ _).trans h.bound⟩

theorem ite {p : Prop} [Decidable p] (hb : Scheduled b) (ht : Scheduled t) : Scheduled (if p then b else t) := by
  split
  · exact hb
  · exact ht

theorem foldl {α : Type} {f : Block → α → Block} (hf : ∀ b x, Scheduled b → Scheduled (f b x)) (xs : List α)
    (h : Scheduled b) : Scheduled (xs.foldl f b) := by
  induction xs generalizing b with
  | nil => exact h
  | cons x xs ih => exact ih (hf b x h)

/-! ## The queue's own operations (R138 to R140) -/

theorem serveScheduleAdd {x : EffTime} {p q : Nat} (h : Scheduled b) : Scheduled (b.serveScheduleAdd x p q).1 := by
  cases hx : x.valid with
  | false => rwa [serveScheduleAdd_of_invalid hx]
  | true =>
    cases hadd : schedAdd b.tdu.queue ⟨x, min p 1000, min q 600⟩ with
    | none => rwa [serveScheduleAdd_full hx hadd]
    | some r =>
      obtain ⟨-, -, hlength, horder⟩ := schedAdd_spec hadd
      rw [serveScheduleAdd_added hx hadd]
      exact ⟨horder hx h.order, hlength h.bound⟩

theorem serveScheduleCancel {x : EffTime} (h : Scheduled b) : Scheduled (b.serveScheduleCancel x).1 := by
  cases hx : x.valid with
  | false => rwa [serveScheduleCancel_of_invalid hx]
  | true =>
    rw [serveScheduleCancel_of_valid hx]
    exact h.of_filter _ rfl

theorem balanceCycle (h : Scheduled b) : Scheduled b.balanceCycle := by
  have hqueue := b.balanceCycle_queue
  unfold applyQueue at hqueue
  split at hqueue
  · exact h.of_queue hqueue
  · exact h.of_filter _ hqueue

/-! ## Deliveries -/

theorem withTaken {x : PerLine Taken} (h : Scheduled b) : Scheduled (b.withTaken x) := h

theorem setClock {k : Clock} (h : Scheduled b) : Scheduled { b with clock := k } := h

theorem run {x : Pass} (j : Job) (h : Scheduled x.block) : Scheduled (j.run x).block := by
  unfold Job.run
  split
  · exact h
  · exact h.withTaken.balanceCycle.withTaken
  · exact h.of_queue (j.act_queue _)

theorem deliverAll (js : List Job) (h : Scheduled b) : Scheduled (b.deliverAll js) := by
  have hjobs (x : Pass) (hx : Scheduled x.block) : Scheduled (x.takeJobs js).block := by
    induction js generalizing x with
    | nil => exact hx
    | cons j js ih => exact ih _ (hx.run j)
  exact hjobs ⟨b, b.taken⟩ h

theorem takeLimits (h : Scheduled b) : Scheduled b.takeLimits := h.of_queue (by simp)

theorem runJobs (js : List Job) (h : Scheduled b) : Scheduled (b.runJobs js) :=
  setClock (foldl (fun _ _ h => h.of_queue (by simp)) allLines (h.takeLimits.deliverAll _))

theorem takeLate (h : Scheduled b) : Scheduled b.takeLate := by
  rw [takeLate_eq_deliverAll]
  exact deliverAll _ h.setClock

theorem secondTick (h : Scheduled b) : Scheduled b.secondTick := by
  have hcounted : Scheduled b.countUptime := h.setClock
  unfold Block.secondTick
  dsimp only
  split
  · exact runJobs _ hcounted.setClock
  · split
    · exact runJobs _ hcounted.setClock
    · exact setClock (runJobs _ hcounted.setClock)

/-! ## Requests -/

theorem serveClockSet {y d s : Nat} (h : Scheduled b) : Scheduled (b.serveClockSet y d s).1 := by
  unfold Block.serveClockSet
  dsimp only
  split
  · exact h
  · split
    · exact h
    · exact setClock (h.takeLate.runJobs _)

theorem serveAllowanceRestore {l : LineId} {year used : Nat} {tallies : PerPollutant Nat} (h : Scheduled b) :
    Scheduled (b.serveAllowanceRestore l year used tallies).1 := by
  unfold Block.serveAllowanceRestore
  split
  · exact h
  · exact .ite (h.takeLate.of_queue (by simp [restoreFigures])) (h.takeLate.of_queue rfl)

theorem serveKind {k : ReqKind} {p : List Byte} (h : Scheduled b) : Scheduled (b.serveKind k p).1 := by
  cases k with
  | ident | clockRead | scheduleList | statusPlant | restart => exact h
  | scheduleAdd => exact h.serveScheduleAdd
  | scheduleCancel => exact h.serveScheduleCancel
  | clockSet => exact h.serveClockSet
  | allowanceRestore => exact onLine_keeps h fun l => h.serveAllowanceRestore
  | paramSet => exact h.of_queue (t := (b.serveParamSet _ _ _ _).1) (by simp)
  | paramGet =>
    have hread : (b.serveKind .paramGet p).1 = b := by
      simp only [Block.serveKind, Block.serveParamGet]
      split
      · rfl
      · split <;> rfl
    rwa [hread]
  | configSave => exact h.of_queue (t := b.serveConfigSave.1) (by simp)
  | lineStart => exact onLine_keeps h fun l => h.of_queue (by simp)
  | lineFeed => exact onLine_keeps h fun l => h.of_queue (by simp)
  | lineStop => exact onLine_keeps h fun l => h.of_queue (by simp)
  | lineCeiling => exact onLine_keeps h fun l => h.of_queue (by simp)
  | lineDeclare => exact onLine_keeps h fun l => h.of_queue (by simp)
  | turbineStart => exact onTurbine_keeps h fun u => h.of_queue (by simp)
  | turbineStop => exact onTurbine_keeps h fun u => h.of_queue (by simp)
  | tripReset => exact onTurbine_keeps h fun u => h.of_queue (by simp)
  | stationEnrol => exact h.of_queue (t := b.serveStationEnrol.1) (by simp)
  | stationBind => exact onStation_keeps h fun n => onRole_keeps h fun r => h.of_queue (by simp)
  | stationUnbind => exact onRole_keeps h fun r => h.of_queue (by simp)
  | stationForget => exact onStation_keeps h fun n => h.of_queue (by simp)
  | stationList => exact onStation_keeps h fun n => h
  | statusLine => exact onLine_keeps h fun l => h
  | statusTurbine => exact onTurbine_keeps h fun u => h
  | recordsFetch => exact h.of_queue (t := (b.serveRecordsFetch _ _).1) (by simp)
  | noticeList =>
    have hread : (b.serveKind .noticeList p).1 = b := by
      simp only [Block.serveKind, Block.serveListFrom]
      split <;> rfl
    rwa [hread]
  | noticeClear => exact h.of_queue (t := (b.serveNoticeClear _ _).1) (by simp)
  | noticeFloor => exact h.of_queue (t := (b.serveNoticeFloor _).1) (by simp)

theorem answer (r : Request) (h : Scheduled b) : Scheduled (b.answer r) := by
  have hawaiting : Scheduled b.awaiting := h
  have hserved : Scheduled (b.awaiting.serve r).1 := by
    unfold Block.serve
    split
    · exact hawaiting
    · split
      · exact hawaiting.serveKind
      · exact hawaiting
  exact hserved.of_queue rfl

/-! ## The host link -/

theorem takeAlong (rs : List Request) (h : Scheduled b) : Scheduled (Block.takeAlong rs b) := by
  induction rs generalizing b with
  | nil => exact h
  | cons r rs ih => exact .ite (ih (answer (b := b.modLink _) r h)) h

theorem takeWaiting (h : Scheduled b) : Scheduled b.takeWaiting := h.takeAlong _

theorem takeArrived {rs : List Request} (h : Scheduled b) : Scheduled (b.takeArrived rs) := .ite h.takeWaiting h

theorem hostByte (v : Byte) (h : Scheduled b) : Scheduled (b.hostByte v) :=
  takeArrived (h.of_queue (t := b.receive v) (by simp))

theorem submit {r : Request} (h : Scheduled b) : Scheduled (b.submit r) :=
  .ite (takeArrived h) (foldl (fun _ v h => h.hostByte v) _ h)

theorem modLink {f : Link → Link} (h : Scheduled b) : Scheduled (b.modLink f) := h

theorem sendOwed (h : Scheduled b) : Scheduled b.sendOwed := h.of_queue (by simp)

theorem messageSent {requestFirst : Bool} (h : Scheduled b) : Scheduled (b.messageSent requestFirst) :=
  .ite h (.ite (.ite h.modLink.modLink h.modLink)
    (.ite h.modLink.takeWaiting.sendOwed h.modLink.sendOwed.takeWaiting))

theorem grantMoment {first : List LinkEvent} (h : Scheduled b) : Scheduled (b.grantMoment first) := by
  have hevent (b : Block) (e : LinkEvent) (h : Scheduled b) : Scheduled (b.linkEvent e) := by
    cases e with
    | byte v => exact h.hostByte v
    | messageSent requestFirst => exact h.messageSent
  have hfirst : Scheduled (first.foldl Block.linkEvent b.grant) := foldl hevent _ (h.of_queue (by simp))
  exact .ite (hfirst.of_queue (by simp)) hfirst

/-! ## Resets and the idle step -/

theorem fullyReset {cause : ResetCause} {baud1 baud0 : Bool} {written : Nat} :
    Scheduled (b.fullyReset cause baud1 baud0 written) := ⟨rfl, Nat.zero_le _⟩

theorem readyPoint {answers feedStopLow trip1Low trip2Low : Bool} (h : Scheduled b) :
    Scheduled (b.readyPoint answers feedStopLow trip1Low trip2Low) := by
  have hqueued : Scheduled (b.loadConfiguration answers).baudInForce.queueBroadcasts :=
    (h.of_queue (t := b.loadConfiguration answers) (by simp)).of_queue rfl
  have hwalk : Scheduled (b.loadConfiguration answers).baudInForce.queueBroadcasts.startWalk :=
    .ite (hqueued.of_queue rfl) hqueued
  exact (hwalk.of_queue (takeInputs_queue _ _ _ _)).of_queue rfl

theorem idleStep (h : Scheduled b) : Scheduled b.idleStep := .ite h.takeLate.takeLimits h.takeLate.takeLimits

end Scheduled
end Block

/-! ## Every step -/

/-- A command keeps the queue in order and within its bound. -/
theorem exec_scheduled (i : Instr) {s : State} (hs : s.block.Scheduled) :
    ∃ b, exec i s = .next (s.withBlock b) ∧ b.Scheduled := by
  cases i with
  | powerOn | rstnReset => exact ⟨_, rfl, .fullyReset⟩
  | restartReset => exact ⟨_, rfl, .ite .fullyReset hs⟩
  | readyPoint => exact ⟨_, rfl, .ite hs hs.readyPoint⟩
  | secondTick => exact ⟨_, rfl, .secondTick (hs.takeLate.of_queue rfl)⟩
  | firingEntry l => exact ⟨_, rfl, hs.of_queue (by simp)⟩
  | holdReturn l => exact ⟨_, rfl, hs.of_queue (by simp)⟩
  | holdLimit l => exact ⟨_, rfl, hs.of_queue (by simp)⟩
  | burnoutEnd l => exact ⟨_, rfl, hs.of_queue (by simp)⟩
  | strokeDue l => exact ⟨_, rfl, hs.of_queue (by simp)⟩
  | strokeTimeout l => exact ⟨_, rfl, hs.of_queue (by simp)⟩
  | runupQualified => exact ⟨_, rfl, hs.of_queue (by simp)⟩
  | runupTimeout => exact ⟨_, rfl, hs.of_queue (by simp)⟩
  | feedStopAssert => exact ⟨_, rfl, .ite hs (hs.of_queue (by simp))⟩
  | feedStopRelease => exact ⟨_, rfl, hs.of_queue rfl⟩
  | tripAssert => exact ⟨_, rfl, .ite hs (hs.of_queue (by simp))⟩
  | tripRelease | speedCountOverflow => exact ⟨_, rfl, hs⟩
  | spdRisingEdge => exact ⟨_, rfl, hs.of_queue (by simp)⟩
  | busGrant => exact ⟨_, rfl, hs.grantMoment⟩
  | stationFrameSent | turnaroundEnd | unansweredFrameEnd | settleEnd => exact ⟨_, rfl, .ite (hs.of_queue rfl) hs⟩
  | stationCharReceived | strayCharacter => exact ⟨_, rfl, hs.of_queue (by simp)⟩
  | responseTimeout | answerGapTimeout => exact ⟨_, rfl, .ite (hs.of_queue (by simp)) hs⟩
  | rollCallWindowEnd => exact ⟨_, rfl, hs.of_queue (by simp)⟩
  | hostByteReceived v => exact ⟨_, rfl, hs.hostByte v⟩
  | hostGapTimeout => exact ⟨_, rfl, .ite hs (hs.of_queue (by simp))⟩
  | linkReset => exact ⟨_, rfl, .ite ((hs.of_queue (t := s.block.resetLink.oweAll) rfl).of_queue (by simp)) hs⟩
  | hrxdReturnedHigh => exact ⟨_, rfl, hs⟩
  | hrdyAsserted => exact ⟨_, rfl, .ite hs hs⟩
  | messageSent => exact ⟨_, rfl, hs.messageSent⟩
  | configWriteDone bad => exact ⟨_, rfl, hs.of_queue (by simp)⟩
  | configVerifyDone => exact ⟨_, rfl, hs.of_queue (by simp)⟩
  | unknownKind | ident | clockSet | clockRead | paramSet | paramGet | configSave | allowanceRestore | lineStart
  | lineFeed | lineStop | lineCeiling | lineDeclare | turbineStart | turbineStop | tripReset | scheduleAdd
  | scheduleCancel | scheduleList | stationEnrol | stationList | stationBind | stationUnbind | stationForget
  | recordsFetch | statusLine | statusTurbine | statusPlant | noticeList | noticeClear | noticeFloor | restart =>
    exact ⟨_, rfl, hs.submit⟩

/-- A step that idles, or takes the front command, keeps the queue in order and within its bound. -/
theorem step_scheduled {s t : State} (hs : s.block.Scheduled) (h : step s = .next t) : t.block.Scheduled := by
  unfold step at h
  split at h
  · cases h
    exact hs.idleStep
  · next c rest _ =>
    obtain ⟨b, hexec, hb⟩ := exec_scheduled c (s := { s with pending := rest }) hs
    cases hexec.symm.trans h
    exact hb

/-- Settles O32: the refusals and the addition, and the queue's order as every step keeps it. -/
theorem scheduleAddKeepsOrder : Obligations.ScheduleAddKeepsOrder := by
  unfold Obligations.ScheduleAddKeepsOrder
  refine ⟨?add, fun s t hok hle hstep => ?kept⟩
  case kept =>
    obtain ⟨hok', hle'⟩ := step_scheduled ⟨hok, hle⟩ hstep
    exact ⟨hok', hle'⟩
  case add =>
    intro s tag y d m p h hidle i x q e
    refine ⟨fun hx => ?_, fun hx hnew hfull => ?_, scheduleAdd_accepted s tag y d m p h hidle⟩
    · exact answered_of_unchanged hidle (exec_scheduleAdd tag hidle
        (Block.serveScheduleAdd_of_invalid (b := s.block.awaiting) hx))
    · exact answered_of_unchanged hidle (exec_scheduleAdd tag hidle
        (Block.serveScheduleAdd_full (b := s.block.awaiting) hx (schedAdd_full hnew hfull)))

end Sys2Proof.Machine
end

section
/-! The TDU's part of a balance cycle: the queue applied (R140), the commitment converted (R121, R141, R142), and the
turbine setpoints moved (R149). -/

namespace Sys2Proof.Machine
open Sys2Proof

/-- Of due entries in order, the latest becomes the commitment and the others are superseded (R140). -/
theorem Commitment.apply_of_latest (c : Commitment) {q : List SchedEntry} (h : schedOk q = true) {e : SchedEntry}
    (he : e ∈ q) (hlatest : ∀ f ∈ q, f = e ∨ f.earlier e) (stamp : Stamp) :
    c.apply q stamp = ⟨e.p, e.h, some e.time, some stamp, min 65535 (c.superseded + (q.length - 1))⟩ := by
  rw [Commitment.apply, getLast?_of_latest h he hlatest]
  rfl

namespace Block
variable (b : Block)

/-! ## The queue applied (R140) -/

@[simp] theorem applyQueue_turbine (u : TurbineId) : b.applyQueue.turbine u = b.turbine u := by
  unfold applyQueue
  split <;> rfl

@[simp] theorem applyQueue_turbineParams (u : TurbineId) : b.applyQueue.turbineParams u = b.turbineParams u := by
  simp [turbineParams]

theorem applyQueue_of_unset (h : b.clock.time = none) : b.applyQueue = b := by simp only [applyQueue, h]

theorem applyQueue_of_running {x : Time} (h : b.clock.time = some x) :
    b.applyQueue.tdu.queue = b.tdu.queue.filter (fun e => !e.due x) ∧
    b.applyQueue.tdu.commitment = b.tdu.commitment.apply (b.tdu.queue.filter fun e => e.due x) b.now := by
  simp [applyQueue, h, splitDue]

/-- What a balance cycle leaves of the TDU's queue, commitment and conversion shortfalls is what its own steps of the
queue and the conversion leave (R120). -/
theorem balanceCycle_tdu :
    b.balanceCycle.tdu.commitment = b.applyQueue.tdu.commitment ∧
    b.balanceCycle.tdu.elConv = b.applyQueue.convert.tdu.elConv ∧
    b.balanceCycle.tdu.heatConv = b.applyQueue.convert.tdu.heatConv := by
  have hmove (b : Block) (x y : Nat) : (b.moveSetpoints x y).tdu.commitment = b.tdu.commitment ∧
      (b.moveSetpoints x y).tdu.elConv = b.tdu.elConv ∧ (b.moveSetpoints x y).tdu.heatConv = b.tdu.heatConv :=
    ⟨rfl, rfl, rfl⟩
  have hconvert (b : Block) : b.convert.tdu.commitment = b.tdu.commitment := rfl
  simp [balanceCycle, allLines, hmove, hconvert]

/-- R140: the entries at or before now leave the queue, and the latest of them becomes the commitment. -/
theorem balanceCycle_running {x : Time} (h : b.clock.time = some x) :
    b.balanceCycle.tdu.queue = b.tdu.queue.filter (fun e => !e.due x) ∧
    (b.tdu.queue.filter (fun e => e.due x) = [] → b.balanceCycle.tdu.commitment = b.tdu.commitment) ∧
    (schedOk b.tdu.queue = true → ∀ e ∈ b.tdu.queue.filter (fun e => e.due x),
      (∀ f ∈ b.tdu.queue.filter (fun e => e.due x), f = e ∨ f.earlier e) →
      b.balanceCycle.tdu.commitment = ⟨e.p, e.h, some e.time, some b.now,
        min 65535 (b.tdu.commitment.superseded + ((b.tdu.queue.filter fun e => e.due x).length - 1))⟩) := by
  obtain ⟨hqueue, hcommitment⟩ := b.applyQueue_of_running h
  rw [balanceCycle_queue, b.balanceCycle_tdu.1, hcommitment]
  refine ⟨hqueue, fun hnone => ?none, fun hok e he hlatest => ?due⟩
  case none => rw [hnone]; rfl
  case due => exact Commitment.apply_of_latest _ (schedOk_filter _ hok) he hlatest _

/-- R140: with no clock time, the queue and the commitment stand. -/
theorem balanceCycle_unset (h : b.clock.time = none) :
    b.balanceCycle.tdu.queue = b.tdu.queue ∧ b.balanceCycle.tdu.commitment = b.tdu.commitment := by
  rw [balanceCycle_queue, b.balanceCycle_tdu.1, b.applyQueue_of_unset h]
  exact ⟨rfl, rfl⟩

/-! ## The commitment converted (R141, R142) -/

/-- T2's conversion of a commitment's heat (R141). -/
def heatPart (b : Block) (c : Commitment) : Conversion :=
  convertHeat (b.turbineParams .t2) (b.turbine .t2).markNow (b.turbine .t2).setpoint c.h

/-- T1's conversion of the electrical need that T2 leaves of a commitment (R142). -/
def powerPart (b : Block) (c : Commitment) : Conversion :=
  convertPower (b.turbineParams .t1) (b.turbine .t1).markNow (b.turbine .t1).setpoint (c.p - (b.heatPart c).power)

/-- A turbine's target before the cut for a commitment (R141, R142). -/
def targetFor (b : Block) (c : Commitment) : TurbineId → Nat
  | .t1 => (b.powerPart c).target
  | .t2 => (b.heatPart c).target

theorem convert_turbine (u : TurbineId) : b.convert.turbine u =
    { b.turbine u with mark := (b.turbine u).markNow, targetBefore := b.targetFor b.tdu.commitment u } := by
  cases u <;> rfl

theorem applyQueue_parts (c : Commitment) :
    b.applyQueue.heatPart c = b.heatPart c ∧ b.applyQueue.powerPart c = b.powerPart c := by
  simp [powerPart, heatPart]

/-- What a balance cycle's conversion leaves without power and heat (R141, R142). -/
theorem balanceCycle_conversion :
    b.balanceCycle.tdu.heatConv =
      b.balanceCycle.tdu.commitment.h - (b.heatPart b.balanceCycle.tdu.commitment).served ∧
    b.balanceCycle.tdu.elConv = b.balanceCycle.tdu.commitment.p - (b.heatPart b.balanceCycle.tdu.commitment).power -
      (b.powerPart b.balanceCycle.tdu.commitment).served := by
  obtain ⟨hcommitment, hel, hheat⟩ := b.balanceCycle_tdu
  obtain ⟨hheatPart, hpowerPart⟩ := b.applyQueue_parts b.applyQueue.tdu.commitment
  rw [hcommitment, hel, hheat, ← hheatPart, ← hpowerPart]
  exact ⟨rfl, rfl⟩

/-! ## The turbines (R121, R149) -/

theorem moveSetpoints_turbine (x y : Nat) (u : TurbineId) : (b.moveSetpoints x y).turbine u =
    (b.turbine u).step7 (match u with | .t1 => x | .t2 => y) ((b.turbineParams u).ramp / 10) := by
  cases u <;> rfl

/-- A turbine's cut of a cycle (R125). -/
def cutOf (x : Blu) : TurbineId → Nat
  | .t1 => x.cut1
  | .t2 => x.cut2

/-- The turbines as a balance cycle's conversion leaves them. -/
theorem converted_turbine (u : TurbineId) : b.applyQueue.convert.turbine u = { b.turbine u with
    mark := (b.turbine u).markNow, targetBefore := b.targetFor b.balanceCycle.tdu.commitment u } := by
  obtain ⟨hheat, hpower⟩ := b.applyQueue_parts b.applyQueue.tdu.commitment
  rw [convert_turbine, applyQueue_turbine, b.balanceCycle_tdu.1]
  cases u <;> simp [targetFor, hheat, hpower]

/-- A balance cycle gives each turbine its mark and its target, and moves its setpoint toward the target less the cut
(R121, R149). -/
theorem balanceCycle_turbine (u : TurbineId) : b.balanceCycle.turbine u =
    ({ b.turbine u with
        mark := (b.turbine u).markNow, targetBefore := b.targetFor b.balanceCycle.tdu.commitment u }).step7
      (b.targetFor b.balanceCycle.tdu.commitment u - cutOf b.balanceCycle.blu u) ((b.turbineParams u).ramp / 10) := by
  have htarget :
      b.targetFor b.balanceCycle.tdu.commitment u = (b.applyQueue.convert.turbine u).targetBefore := by
    rw [converted_turbine]
  have hnotices (b : Block) (p q : Bool) : (b.cycleNotices p q).turbine u = b.turbine u := by simp [turbine]
  have hdeliver (b : Block) : (allLines.foldl deliverTarget b).turbine u = b.turbine u := by simp [turbine, allLines]
  have hparams (f : Blu) : (allLines.foldl deliverTarget { b.applyQueue.convert with blu := f }).turbineParams u =
      b.turbineParams u := by simp [turbineParams, allLines]
  rw [← converted_turbine, htarget, balanceCycle_blu, balanceCycle, hnotices, moveSetpoints_turbine, hdeliver, hparams]
  cases u <;> rfl

/-- The target after the cut is the target less the cut (R149). -/
theorem balanceCycle_targetAfter_eq (u : TurbineId) : (b.balanceCycle.turbine u).targetAfter =
    (b.balanceCycle.turbine u).targetBefore - cutOf b.balanceCycle.blu u := by
  rw [b.balanceCycle_turbine]
  rfl

end Block
end Sys2Proof.Machine
end

section
/-! What a balance cycle moves: the turbine setpoints (R149) and the loads of the lines in FIRING (R129, R36). -/

namespace Sys2Proof.Machine
open Sys2Proof

/-! ## A turbine's setpoint (R149) -/

theorem moveToward_near (x target step : Nat) :
    moveToward x target step ≤ x + step ∧ x ≤ moveToward x target step + step := by
  unfold moveToward
  split
  · omega
  · split <;> omega

namespace Turbine
variable {x : Turbine} {target step : Nat}

/-- In RUNUP, and ONLINE not frozen, the setpoint moves toward the target. -/
theorem step7_moves (h : x.state = .runup ∨ x.state = .online ∧ x.frozen = false) :
    (x.step7 target step).setpoint = moveToward x.setpoint target step ∧ (x.step7 target step).state = x.state := by
  rcases h with h | ⟨h, hfrozen⟩
  · simp [step7, h]
  · simp [step7, h, hfrozen]

/-- A frozen setpoint stands. -/
theorem step7_stands (h : x.state = .online) (hfrozen : x.frozen = true) :
    (x.step7 target step).setpoint = x.setpoint ∧ (x.step7 target step).state = .online := by
  simp [step7, h, hfrozen]

/-- An UNLOADING turbine whose setpoint comes to 0 is OFFLINE. -/
theorem step7_unloads (h : x.state = .unloading) :
    (x.step7 target step).setpoint = moveToward x.setpoint target step ∧
    (x.step7 target step).state = if moveToward x.setpoint target step = 0 then .offline else .unloading := by
  simp [step7, h]

/-- In OFFLINE and TRIPPED the setpoint is 0. -/
theorem step7_zero (h : x.state = .offline ∨ x.state = .tripped) :
    (x.step7 target step).setpoint = 0 ∧ (x.step7 target step).state = x.state := by
  rcases h with h | h <;> simp [step7, h]

/-- In every other state the setpoint moves by at most the step. -/
theorem step7_near (h : ¬(x.state = .offline ∨ x.state = .tripped)) :
    (x.step7 target step).setpoint ≤ x.setpoint + step ∧ x.setpoint ≤ (x.step7 target step).setpoint + step := by
  have hmove := moveToward_near x.setpoint target step
  cases hst : x.state with
  | offline => exact absurd (.inl hst) h
  | tripped => exact absurd (.inr hst) h
  | runup => rwa [(step7_moves (.inl hst)).1]
  | unloading => rwa [(step7_unloads hst).1]
  | online =>
    cases hfrozen : x.frozen with
    | false => rwa [(step7_moves (.inr ⟨hst, hfrozen⟩)).1]
    | true =>
      rw [(step7_stands hst hfrozen).1]
      exact ⟨Nat.le_add_right _ _, Nat.le_add_right _ _⟩

end Turbine

/-! ## A line's load (R129, R36) -/

namespace Block
variable {b : Block} {l : LineId}

/-- A load target changes the load record of its own line alone. -/
theorem deliverTarget_line_of_ne {m : LineId} (h : l ≠ m) : (b.deliverTarget m).line l = b.line l := by
  unfold deliverTarget
  split
  · unfold loadTarget
    split
    · exact modGfu_line_of_ne b _ h
    · rfl
  · rfl

theorem foldl_deliverTarget_of_not_mem {ls : List LineId} (h : l ∉ ls) {b : Block} :
    (ls.foldl deliverTarget b).line l = b.line l := by
  induction ls generalizing b with
  | nil => rfl
  | cons m ls ih =>
    rw [List.mem_cons, not_or] at h
    exact (ih h.2).trans (deliverTarget_line_of_ne h.1)

/-- Delivered to lines each once, a line in FIRING takes the load target of its figures. -/
theorem foldl_deliverTarget_of_figures {ls : List LineId} (hnd : ls.Nodup) (hl : l ∈ ls) {b : Block} {f : LineFigures}
    (hst : (b.line l).lsc.state = .firing) (hf : b.blu.figures.get l = some f) :
    (ls.foldl deliverTarget b).line l =
      { b.line l with gfu := (b.line l).gfu.takeTarget f.target ((b.lineParams l).ramp / 10) } := by
  induction ls generalizing b with
  | nil => exact absurd hl List.not_mem_nil
  | cons m ls ih =>
    obtain ⟨hnot, hnd⟩ := List.nodup_cons.1 hnd
    by_cases hm : l = m
    · subst hm
      rw [List.foldl_cons, foldl_deliverTarget_of_not_mem hnot]
      simp only [deliverTarget, hf, loadTarget, hst, if_true, modGfu_line_self]
    · have hother := deliverTarget_line_of_ne (b := b) hm
      rw [List.foldl_cons, ih hnd (List.mem_of_ne_of_mem hm hl) (by rwa [hother]) (by simpa using hf), hother]
      simp [lineParams]

/-- Load targets leave a line that has no figures as it is. -/
theorem foldl_deliverTarget_of_no_figures (ls : List LineId) {b : Block} (hf : b.blu.figures.get l = none) :
    (ls.foldl deliverTarget b).line l = b.line l := by
  induction ls generalizing b with
  | nil => rfl
  | cons m ls ih =>
    have hkept : (b.deliverTarget m).line l = b.line l := by
      by_cases hm : l = m
      · subst hm
        rw [deliverTarget, hf]
      · exact deliverTarget_line_of_ne hm
    exact (ih (by simpa using hf)).trans hkept

/-- A block in the cycle as the load targets find it: the queue applied, and the figures formed (R120). -/
def figured (b : Block) : Block := { b.applyQueue.convert with blu := b.applyQueue.convert.balanceFigures }

theorem figured_blu (b : Block) : b.figured.blu = b.balanceCycle.blu := b.balanceCycle_blu.symm

@[simp] theorem figured_line (b : Block) (l : LineId) : b.figured.line l = b.line l := by simp [figured, line]

@[simp] theorem figured_lineParams (b : Block) (l : LineId) : b.figured.lineParams l = b.lineParams l := by
  simp [figured, lineParams]

/-- Of a balance cycle the load targets alone change a line (R120, R129). -/
theorem balanceCycle_line_eq (b : Block) (l : LineId) :
    b.balanceCycle.line l = (allLines.foldl deliverTarget b.figured).line l := by
  have hmove (b : Block) (x y : Nat) (p q : Bool) : ((b.moveSetpoints x y).cycleNotices p q).line l = b.line l := by
    simp [line]
  exact hmove _ _ _ _ _

/-- A balance cycle leaves a line with no figures as it is. -/
theorem balanceCycle_line_of_no_figures (hf : b.balanceCycle.blu.figures.get l = none) :
    b.balanceCycle.line l = b.line l := by
  rw [← figured_blu] at hf
  rw [balanceCycle_line_eq, foldl_deliverTarget_of_no_figures _ hf, figured_line]

/-- A balance cycle has a line in FIRING take the load target of its figures (R129, R36). -/
theorem balanceCycle_line_of_figures {f : LineFigures} (hst : (b.line l).lsc.state = .firing)
    (hf : b.balanceCycle.blu.figures.get l = some f) : b.balanceCycle.line l =
      { b.line l with gfu := (b.line l).gfu.takeTarget f.target ((b.lineParams l).ramp / 10) } := by
  rw [← figured_blu] at hf
  rw [← figured_line] at hst
  have hmem : l ∈ allLines := by cases l <;> decide
  rw [balanceCycle_line_eq, foldl_deliverTarget_of_figures (by decide) hmem hst hf, figured_line, figured_lineParams]

end Block
end Sys2Proof.Machine
end

section
/-! The figures a balance cycle forms: the trim (R122), the steam and the bounds (R123, R124), the cut (R125, R126), the
lines' figures (R127 to R129) and the notices of the cycle (R126, R130). -/

namespace Sys2Proof.Machine
open Sys2Proof

/-! ## The trim (R122) -/

/-- Within the dead band the trim is 0. -/
theorem trimOfError_inside {x : Nat} {p : PlantParams} (hhigh : x ≤ p.pSet + p.deadBand) (hlow : p.pSet ≤ x + p.deadBand) :
    trimOfError ((p.pSet : Int) - x) p = 0 := by
  dsimp only [trimOfError]
  rw [if_neg (by omega), if_neg (by omega)]
  omega

/-- With a low pressure the trim is the error beyond the dead band times the gain, to at most the limit. -/
theorem trimOfError_low {x : Nat} {p : PlantParams} (h : x + p.deadBand < p.pSet) :
    trimOfError ((p.pSet : Int) - x) p = (min ((p.pSet - x - p.deadBand) * p.kP / 100) p.tMax : Nat) := by
  have hbeyond : (p.pSet : Int) - x - p.deadBand = (p.pSet - x - p.deadBand : Nat) := by omega
  have hgain : (((p.pSet : Int) - x - p.deadBand) * p.kP).tdiv 100 = ((p.pSet - x - p.deadBand) * p.kP / 100 : Nat) := by
    rw [hbeyond]
    rfl
  dsimp only [trimOfError]
  rw [if_pos (by omega), hgain]
  omega

/-- With a high pressure the trim is negative, and cut off alike. -/
theorem trimOfError_high {x : Nat} {p : PlantParams} (h : p.pSet + p.deadBand < x) :
    trimOfError ((p.pSet : Int) - x) p = -(min ((x - p.pSet - p.deadBand) * p.kP / 100) p.tMax : Nat) := by
  have hbeyond : (p.pSet : Int) - x + p.deadBand = -(x - p.pSet - p.deadBand : Nat) := by omega
  have hgain : (((p.pSet : Int) - x + p.deadBand) * p.kP).tdiv 100 =
      -((x - p.pSet - p.deadBand) * p.kP / 100 : Nat) := by
    rw [hbeyond, Int.neg_mul, Int.neg_tdiv]
    rfl
  dsimp only [trimOfError]
  rw [if_neg (by omega), if_pos (by omega), hgain]
  omega

theorem trimNow_none {pressure : Option Nat} {anyFiring : Bool} (p : PlantParams)
    (h : pressure = none ∨ anyFiring = false) : trimNow pressure anyFiring p = 0 := by
  rcases h with rfl | rfl
  · rfl
  · cases pressure <;> rfl

/-- The trim is within the trim limit. -/
theorem trimNow_within (pressure : Option Nat) (anyFiring : Bool) (p : PlantParams) :
    trimNow pressure anyFiring p ≤ p.tMax ∧ -(p.tMax : Int) ≤ trimNow pressure anyFiring p := by
  unfold trimNow
  split
  · omega
  · split
    · dsimp only [trimOfError]
      omega
    · omega

namespace Block
variable (b : Block)

/-! ## The firing lines (R117, R124) -/

/-- A line is counted as firing by the state of its copy (R117). -/
def counted (b : Block) (l : LineId) : Prop := (b.blu.copies.get l).state = .firing

theorem firingLines_eq : b.firingLines =
    (allLines.filter fun l => (b.blu.copies.get l).state == .firing).map fun l =>
      boundsOf l (b.blu.copies.get l).ceiling (b.lineParams l) := by
  rw [firingLines]
  induction allLines with
  | nil => rfl
  | cons l ls ih =>
    rw [List.filterMap_cons, List.filter_cons, ih]
    by_cases hl : (b.blu.copies.get l).state = .firing
    · simp [hl]
    · simp [hl]

theorem mem_firingLines {f : FiringLine} : f ∈ b.firingLines ↔
    b.counted f.line ∧ f = boundsOf f.line (b.blu.copies.get f.line).ceiling (b.lineParams f.line) := by
  have hall (l : LineId) : l ∈ allLines := by cases l <;> decide
  rw [firingLines, List.mem_filterMap]
  constructor
  · rintro ⟨l, -, hl⟩
    rw [Option.ite_none_right_eq_some, Option.some.injEq] at hl
    obtain ⟨hfiring, rfl⟩ := hl
    exact ⟨hfiring, rfl⟩
  · rintro ⟨hfiring, hf⟩
    exact ⟨f.line, hall _, (if_pos hfiring).trans (congrArg some hf.symm)⟩

/-- The cycle has a firing line where one is counted. -/
theorem firingLines_ne_nil : (b.firingLines != []) = true ↔ ∃ l, b.counted l := by
  rw [bne_iff_ne, ← List.isEmpty_eq_false_iff, List.isEmpty_eq_false_iff_exists_mem]
  constructor
  · rintro ⟨f, hf⟩
    exact ⟨f.line, (b.mem_firingLines.1 hf).1⟩
  · rintro ⟨l, hl⟩
    exact ⟨boundsOf l (b.blu.copies.get l).ceiling (b.lineParams l), b.mem_firingLines.2 ⟨hl, rfl⟩⟩

/-! ## The figures (R122 to R131) -/

theorem balanceFigures_trim : b.balanceFigures.trim =
    trimNow b.blu.pressure (b.firingLines != []) b.cmc.params.plant := rfl

theorem balanceFigures_uncontrolled : b.balanceFigures.uncontrolled =
    b.uncontrolledOf .l1 + b.uncontrolledOf .l2 + b.uncontrolledOf .l3 :=
  (Nat.add_assoc _ _ _).symm

theorem balanceFigures_figures (l : LineId) : b.balanceFigures.figures.get l =
    (b.firingLines.find? fun f => f.line == l).map (figuresOf b.firingLines b.placed) := by
  have hfigures : b.balanceFigures.figures.get l = ((b.firingLines.map fun f =>
      (f.line, figuresOf b.firingLines b.placed f)).find? fun f => f.1 == l).map Prod.snd := PerLine.get_tabulate _ l
  rw [hfigures, List.find?_map, Option.map_map]
  rfl

/-- A line that is not counted as firing has no figures (R129). -/
theorem balanceFigures_figures_of_not_counted {l : LineId} (h : ¬b.counted l) : b.balanceFigures.figures.get l = none := by
  rw [balanceFigures_figures, Option.map_eq_none_iff, List.find?_eq_none]
  intro f hf hl
  exact h (beq_iff_eq.1 hl ▸ (b.mem_firingLines.1 hf).1)

/-- A firing line's figures are its bounds, its allocation and its load target (R127, R129). -/
theorem balanceFigures_figures_of_mem {f : FiringLine} (hf : f ∈ b.firingLines) :
    b.balanceFigures.figures.get f.line = some (figuresOf b.firingLines b.placed f) := by
  rw [balanceFigures_figures, Option.map_eq_some_iff]
  obtain ⟨g, hg⟩ := Option.isSome_iff_exists.1 (List.find?_isSome (p := fun g => g.line == f.line).2 ⟨f, hf, beq_self_eq_true _⟩)
  have hline : g.line = f.line := beq_iff_eq.1 (List.find?_some (p := fun g : FiringLine => g.line == f.line) hg)
  have hgf : g = f := by
    rw [(b.mem_firingLines.1 (List.mem_of_find?_eq_some hg)).2, hline]
    exact (b.mem_firingLines.1 hf).2.symm
  exact ⟨g, hg, by rw [hgf]⟩

theorem balanceFigures_figures_of_counted {l : LineId} (h : b.counted l) :
    ∃ f, b.balanceFigures.figures.get l = some f :=
  ⟨_, b.balanceFigures_figures_of_mem
    (f := boundsOf l (b.blu.copies.get l).ceiling (b.lineParams l)) (b.mem_firingLines.2 ⟨h, rfl⟩)⟩

/-- The demand less the steam at hand: what a cycle has to cut (R125). -/
def deficit (b : Block) : Int :=
  b.balanceFigures.demand - ((b.firingLines.map FiringLine.hi).sum + b.balanceFigures.uncontrolled)

/-- A turbine's target is cut no lower than its floor (R121). -/
def cutFloorOf (b : Block) (u : TurbineId) : Nat :=
  cutFloor (b.turbine u).mark (b.turbineParams u).s0 (b.turbine u).targetBefore

/-- A deficit is cut from T1, then T2, each to its floor, and the rest is the residual (R125). -/
theorem balanceFigures_cut {n : Nat} (h : b.deficit.toNat = n) :
    b.balanceFigures.cut1 = min n ((b.turbine .t1).targetBefore - b.cutFloorOf .t1) ∧
    b.balanceFigures.cut2 =
      min (n - b.balanceFigures.cut1) ((b.turbine .t2).targetBefore - b.cutFloorOf .t2) ∧
    b.balanceFigures.residual = n - b.balanceFigures.cut1 - b.balanceFigures.cut2 := by
  subst h
  exact ⟨rfl, rfl, rfl⟩

/-- The surplus is the steam allocated and uncontrolled above the demand after the cut (R130). -/
theorem balanceFigures_surplus_allocs :
    let alloc (l : LineId) : Nat := ((b.balanceFigures.figures.get l).map LineFigures.alloc).getD 0
    b.balanceFigures.surplus =
      (alloc .l1 + alloc .l2 + alloc .l3 + b.balanceFigures.uncontrolled - b.balanceFigures.demandCut : Int).toNat := by
  have hnd : ((b.firingLines.map fun f => (f.line, allocate b.firingLines b.placed f)).map Prod.fst).Nodup := by
    rw [List.map_map]
    exact b.firingLines_nodup
  have hallocs := received_allLines hnd
  rw [List.map_map, ← balanceFigures_alloc, ← balanceFigures_alloc, ← balanceFigures_alloc] at hallocs
  have hsum : (b.firingLines.map (allocate b.firingLines b.placed)).sum = _ := hallocs.symm
  rw [balanceFigures_surplus, hsum]
  rfl

/-- Of the TDU, the figures are formed from the conversion shortfalls and the turbines' marks and targets. -/
theorem balanceFigures_tdu (x : Tdu) : ({ b with tdu := x } : Block).balanceFigures =
    ({ b with tdu := { b.tdu with
        elConv := x.elConv
        heatConv := x.heatConv
        turbines := ⟨{ b.turbine .t1 with mark := x.turbines.t1.mark, targetBefore := x.turbines.t1.targetBefore },
          { b.turbine .t2 with mark := x.turbines.t2.mark, targetBefore := x.turbines.t2.targetBefore }⟩ } } :
      Block).balanceFigures := rfl

/-- A block with the turbine dispatch its balance cycle leaves: what the cycle's figures are formed from. -/
def dispatched (b : Block) : Block := { b with tdu := b.balanceCycle.tdu }

/-- The cycle's own steps keep each turbine's mark and target from the conversion on. -/
theorem balanceCycle_mark_target (u : TurbineId) :
    (b.balanceCycle.turbine u).mark = (b.applyQueue.convert.turbine u).mark ∧
    (b.balanceCycle.turbine u).targetBefore = (b.applyQueue.convert.turbine u).targetBefore := by
  rw [balanceCycle_turbine, converted_turbine]
  exact ⟨rfl, rfl⟩

theorem balanceCycle_figures : b.balanceCycle.blu = b.dispatched.balanceFigures := by
  obtain ⟨-, hel, hheat⟩ := b.balanceCycle_tdu
  obtain ⟨hmark1, htarget1⟩ := b.balanceCycle_mark_target .t1
  obtain ⟨hmark2, htarget2⟩ := b.balanceCycle_mark_target .t2
  simp only [turbine, PerTurbine.get] at hmark1 htarget1 hmark2 htarget2
  have hconverted : b.applyQueue.convert = { b with tdu := b.applyQueue.convert.tdu } := by
    unfold applyQueue
    split <;> rfl
  rw [balanceCycle_blu, dispatched, b.balanceFigures_tdu b.balanceCycle.tdu, hel, hheat, hmark1, htarget1, hmark2,
    htarget2, ← b.balanceFigures_tdu b.applyQueue.convert.tdu, ← hconverted]

/-! ## The notices (R126, R130) -/

/-- COMMIT_SHORT tells of a shortfall where there was none (R126). -/
theorem cycleNotices_commitShort (h : b.blu.short = true) (saturated : Bool) :
    (b.cycleNotices false saturated).pendingWith .commitShort 0 (u8 (if 0 < b.blu.elShort then 0 else 1)) := by
  simp only [cycleNotices, h, Bool.not_false, Bool.and_self, if_true]
  split
  · rw [pendingWith, raise_notice_of_ne _ (fun g => absurd g.1 (by decide))]
    exact raise_pendingWith ..
  · exact raise_pendingWith ..

theorem cycleNotices_commitShort_kept {short : Bool} (h : short = true ∨ b.blu.short = false) (saturated : Bool) :
    (b.cycleNotices short saturated).notice .commitShort 0 = b.notice .commitShort 0 := by
  have hnone : (b.blu.short && !short) = false := by rcases h with h | h <;> simp [h]
  simp only [cycleNotices, hnone, Bool.false_eq_true, if_false]
  split
  · exact raise_notice_of_ne _ (fun g => absurd g.1 (by decide)) _
  · rfl

/-- BYPASS_SAT tells of steam unabsorbed where there was none (R130). -/
theorem cycleNotices_bypassSat (h : b.blu.saturated = true) (short : Bool) :
    (b.cycleNotices short false).pendingWith .bypassSat 0 (u32 b.blu.unabsorbed) := by
  simp only [cycleNotices, h, Bool.not_false, Bool.and_self, if_true]
  exact raise_pendingWith ..

theorem cycleNotices_bypassSat_kept {saturated : Bool} (h : saturated = true ∨ b.blu.saturated = false) (short : Bool) :
    (b.cycleNotices short saturated).notice .bypassSat 0 = b.notice .bypassSat 0 := by
  have hnone : (b.blu.saturated && !saturated) = false := by rcases h with h | h <;> simp [h]
  simp only [cycleNotices, hnone, Bool.false_eq_true, if_false]
  split
  · exact raise_notice_of_ne _ (fun g => absurd g.1 (by decide)) _
  · rfl

/-- A balance cycle ends with its notices (R126, R130). -/
theorem balanceCycle_eq_cycleNotices : ∃ t : Block, b.balanceCycle = t.cycleNotices b.blu.short b.blu.saturated ∧
    t.blu = b.balanceCycle.blu ∧ t.notices = b.notices :=
  ⟨_, rfl, by rw [balanceCycle_blu]; simp [allLines], by simp [allLines]⟩

theorem balanceCycle_commitShort (hbefore : b.blu.short = false) (h : b.balanceCycle.blu.short = true) :
    b.balanceCycle.pendingWith .commitShort 0 (u8 (if 0 < b.balanceCycle.blu.elShort then 0 else 1)) := by
  obtain ⟨t, ht, hblu, -⟩ := b.balanceCycle_eq_cycleNotices
  rw [← hblu] at h ⊢
  rw [ht, hbefore]
  exact t.cycleNotices_commitShort h _

theorem balanceCycle_commitShort_kept (h : b.blu.short = true ∨ b.balanceCycle.blu.short = false) :
    b.balanceCycle.notice .commitShort 0 = b.notice .commitShort 0 := by
  obtain ⟨t, ht, hblu, hnotices⟩ := b.balanceCycle_eq_cycleNotices
  rw [← hblu] at h
  rw [ht, t.cycleNotices_commitShort_kept h, notice_congr hnotices]

theorem balanceCycle_bypassSat (hbefore : b.blu.saturated = false) (h : b.balanceCycle.blu.saturated = true) :
    b.balanceCycle.pendingWith .bypassSat 0 (u32 b.balanceCycle.blu.unabsorbed) := by
  obtain ⟨t, ht, hblu, -⟩ := b.balanceCycle_eq_cycleNotices
  rw [← hblu] at h ⊢
  rw [ht, hbefore]
  exact t.cycleNotices_bypassSat h _

theorem balanceCycle_bypassSat_kept (h : b.blu.saturated = true ∨ b.balanceCycle.blu.saturated = false) :
    b.balanceCycle.notice .bypassSat 0 = b.notice .bypassSat 0 := by
  obtain ⟨t, ht, hblu, hnotices⟩ := b.balanceCycle_eq_cycleNotices
  rw [← hblu] at h
  rw [ht, t.cycleNotices_bypassSat_kept h, notice_congr hnotices]

end Block
end Sys2Proof.Machine
end

section
/-! A balance cycle as R120 to R131, R140 to R142 and R149 have it. -/

namespace Sys2Proof.Machine
open Sys2Proof

/-- Settles O26: by the parts of the cycle, in order the queue, the conversion, the limits, the figures, the lines and the
turbines. -/
theorem cycleMovesWithinLimits : Obligations.CycleMovesWithinLimits := by
  unfold Obligations.CycleMovesWithinLimits
  refine ⟨?queue, ?conversion, ?limits, ?figures, ?lines, ?turbines⟩
  case queue =>
    intro b t old
    exact ⟨b.balanceCycle_unset, fun x hx => b.balanceCycle_running hx⟩
  case conversion =>
    intro b t c mark p q f1 f2 heatServed power2 need served
    have hmark : ∀ u, (t.turbine u).mark = mark u := fun u => by
      rw [b.balanceCycle_turbine]
      rfl
    have hheat : (b.heatPart c).served = heatServed ∧ (b.heatPart c).power = power2 := by
      change (convertHeat q (mark .t2) f2 c.h).served = _ ∧ (convertHeat q (mark .t2) f2 c.h).power = _
      dsimp only [heatServed, power2]
      cases mark .t2 <;> exact ⟨rfl, rfl⟩
    obtain ⟨hheatConv, helConv⟩ := b.balanceCycle_conversion
    have hpower : (b.powerPart c).served = served := by
      change (convertPower p (mark .t1) f1 (c.p - (b.heatPart c).power)).served = _
      rw [hheat.2]
      dsimp only [served]
      cases mark .t1 <;> rfl
    rw [hheat.1] at hheatConv
    rw [hheat.2, hpower] at helConv
    refine ⟨hmark, hheatConv, helConv, ?_, ?_⟩
    · rw [b.balanceCycle_turbine]
      change (convertHeat q (mark .t2) f2 c.h).target = _
      cases mark .t2 <;> rfl
    · rw [b.balanceCycle_turbine]
      change (convertPower p (mark .t1) f1 (c.p - (b.heatPart c).power)).target = _
      rw [hheat.2]
      cases mark .t1 <;> rfl
  case limits =>
    intro b t
    have htrim := trimNow_within b.blu.pressure (b.dispatched.firingLines != []) b.cmc.params.plant
    have hfigures : t.blu = b.dispatched.balanceFigures := b.balanceCycle_figures
    rw [hfigures]
    refine ⟨htrim.1, htrim.2, rfl, min_le_right _ _, fun u => ?_⟩
    rw [b.balanceCycle_turbine]
    exact ⟨fun h => (Turbine.step7_zero h).1, fun h => (Turbine.step7_stands h.1 h.2).1, fun h => Turbine.step7_near h⟩
  case figures =>
    intro b t p new firing hi lo lines steam x1 x2 floor1 floor2 deficit alloc surplus
    have hnew : new = b.dispatched.balanceFigures := b.balanceCycle_figures
    have hlines : lines = b.dispatched.firingLines := b.dispatched.firingLines_eq.symm
    have hdeficit : deficit = b.dispatched.deficit := by
      dsimp only [deficit]
      rw [hnew, hlines]
      rfl
    have htrim : new.trim = trimNow b.blu.pressure (b.dispatched.firingLines != []) p := by
      rw [hnew]
      exact b.dispatched.balanceFigures_trim
    refine ⟨fun h => ?trimNone, fun x hx hfiring => ?trim, ?uncontrolled, ?demand, fun h => ?noDeficit,
      fun n h => ?deficit, ?demandCut, ?elShort, ?heatShort, ?short, b.balanceCycle_commitShort,
      b.balanceCycle_commitShort_kept, fun l hl => ?notCounted, fun f hf => ?counted, ?surplus, ?target, ?unabsorbed,
      ?saturated, b.balanceCycle_bypassSat, b.balanceCycle_bypassSat_kept, ?stamp, ?copies, ?pressure, ?flow,
      ?after1, ?after2⟩
    case trimNone =>
      refine htrim.trans (trimNow_none p (h.imp_right fun hnone => ?_))
      exact Bool.eq_false_iff.2 fun hfiring => (b.dispatched.firingLines_ne_nil.1 hfiring).elim hnone
    case trim =>
      rw [hx, b.dispatched.firingLines_ne_nil.2 hfiring] at htrim
      exact ⟨fun hhigh hlow => htrim.trans (trimOfError_inside hhigh hlow), fun h => htrim.trans (trimOfError_low h),
        fun h => htrim.trans (trimOfError_high h)⟩
    case uncontrolled => exact hnew ▸ b.dispatched.balanceFigures_uncontrolled
    case demand | demandCut | elShort | heatShort | target | unabsorbed | stamp | copies | pressure | flow =>
      rw [hnew]
      rfl
    case noDeficit =>
      obtain ⟨hcut1, hcut2, hresidual⟩ := b.dispatched.balanceFigures_cut (n := 0) (by omega)
      rw [hnew]
      omega
    case deficit =>
      rw [hnew]
      exact b.dispatched.balanceFigures_cut (by omega)
    case short =>
      rw [hnew]
      exact Bool.or_eq_true_iff.trans (or_congr decide_eq_true_iff decide_eq_true_iff)
    case notCounted => exact hnew ▸ b.dispatched.balanceFigures_figures_of_not_counted hl
    case counted =>
      rw [hnew, hlines]
      exact b.dispatched.balanceFigures_figures_of_mem (hlines ▸ hf)
    case surplus =>
      have hsurplus := b.dispatched.balanceFigures_surplus_allocs
      rw [← hnew] at hsurplus
      exact hsurplus
    case saturated => rw [hnew]; exact decide_eq_true_iff
    case after1 => exact b.balanceCycle_targetAfter_eq .t1
    case after2 => exact b.balanceCycle_targetAfter_eq .t2
  case lines =>
    intro b l t g step
    refine ⟨fun h => ?kept, fun hst hcounted => ?moved⟩
    case kept =>
      rcases h with hst | hcopy
      · exact b.balanceCycle_of_not_firing hst
      · refine Block.balanceCycle_line_of_no_figures ?_
        rw [b.balanceCycle_figures]
        exact b.dispatched.balanceFigures_figures_of_not_counted hcopy
    case moved =>
      obtain ⟨f, hf⟩ := b.dispatched.balanceFigures_figures_of_counted hcounted
      rw [← b.balanceCycle_figures] at hf
      exact ⟨f, hf, Block.balanceCycle_line_of_figures hst hf⟩
  case turbines =>
    intro b u x y step moved
    have hy := b.balanceCycle_turbine u
    have hmoved : moved = moveToward x.setpoint y.targetAfter step := rfl
    have htarget : y.targetAfter = b.targetFor b.balanceCycle.tdu.commitment u - Block.cutOf b.balanceCycle.blu u := by
      dsimp only [y]
      rw [hy]
      rfl
    rw [hmoved, htarget]
    dsimp only [y]
    rw [hy]
    exact ⟨rfl, fun h => Turbine.step7_moves h, fun h hfrozen => Turbine.step7_stands h hfrozen,
      fun h => Turbine.step7_unloads h, fun h => Turbine.step7_zero h⟩

end Sys2Proof.Machine
end
